-- ==== Sys2Proof/Word.lean ====
section
/-! DEFINITION. The word types of the block: rule R10 (widths) and rule R12 (bit 0 is the least significant bit). -/

namespace Sys2Proof

/-- A host-visible register, XLEN = 32 bits (R10). -/
abbrev Word := BitVec 32

/-- A pulse-duration entry or the threshold, CW = 16 bits (R10). -/
abbrev Count := BitVec 16

/-- A host word index, 0x00 to 0xFF (R60). -/
abbrev Index := BitVec 8

/-- The decoded sensor frame, 40 bits (R25). -/
abbrev Frame := BitVec 40

/-- One of the five bytes of a frame (R25). -/
abbrev Byte := BitVec 8

/-- The index of a pulse pair, 0 to 40: NPAIR = 41 pairs (R8). -/
abbrev Pair := Fin 41

/-- A file of 41 pulse durations: `PDL` or `PDH` (R23). -/
abbrev PulseFile := Vector Count 41

/-- A sequencer code (R21). -/
abbrev PhaseCode := BitVec 4

end Sys2Proof
end

