-- ==== Sys2Proof/Syntax.lean ====
section
/-! DEFINITION. The instructions: one constructor per row of spec/opcode_table.json, in the table's order,
and the three formats a row's word can have (R80). -/

namespace Sys2Proof

/-- What the block can be asked to do in one event.
The CMD32 rows are values written to `CMD` (R90), the HT41 rows are host transactions (R91),
and the PH4 rows are what one tick does in a phase (R21). -/
inductive Instr where
  /-- READ (R111). -/
  | read
  /-- DECODE (R112). -/
  | decode
  /-- ILLEGAL: every CMD32 value other than 1 and 2, written while `BUSY = 0` (R113). -/
  | illegal (opc : Word)
  /-- BUSY_REJECT: any CMD32 value, written while `BUSY = 1` (R114). -/
  | busyReject (opc : Word)
  /-- RD: host read of a word index (R62). -/
  | rd (idx : Index)
  /-- WR: host write to a word index (R63). -/
  | wr (idx : Index) (data : Word)
  /-- RD CMD, word index 0x00 (R39). -/
  | rdCmd
  /-- RD STATUS, word index 0x01 (R38). -/
  | rdStatus
  /-- RD THRESH, word index 0x02 (R24). -/
  | rdThresh
  /-- RD FRAME_HI, word index 0x03 (R25). -/
  | rdFrameHi
  /-- RD FRAME_LO, word index 0x04 (R25). -/
  | rdFrameLo
  /-- RD HUM, word index 0x05 (R26). -/
  | rdHum
  /-- RD TMAG, word index 0x06 (R27). -/
  | rdTmag
  /-- RD TEMP_C, word index 0x07 (R28). -/
  | rdTempC
  /-- RD TEMP_F, word index 0x08 (R28). -/
  | rdTempF
  /-- WR CMD, READ: the READ command as a host transaction (R111). -/
  | wrCmdRead
  /-- WR CMD, DECODE: the DECODE command as a host transaction (R112). -/
  | wrCmdDecode
  /-- WR PDL[i] (R63, R92). -/
  | wrPdl (i : Pair) (data : Word)
  /-- WR PDH[i] (R63, R92). -/
  | wrPdh (i : Pair) (data : Word)
  /-- RD PDL[i] (R62). -/
  | rdPdl (i : Pair)
  /-- RD PDH[i] (R62). -/
  | rdPdh (i : Pair)
  /-- IDLE, phase code 0 (R130). -/
  | idle
  /-- WAKE_HIGH, phase code 1 (R131). -/
  | wakeHigh
  /-- WAKE_LOW, phase code 2 (R132). -/
  | wakeLow
  /-- HANDOVER, phase code 3 (R133). -/
  | handover
  /-- SETTLE, phase code 4 (R134). -/
  | settle
  /-- READY_WAIT, phase code 5 (R140). -/
  | readyWait
  /-- CAP_LOW, phase code 6 (R141). -/
  | capLow
  /-- CAP_HIGH, phase code 7 (R142). -/
  | capHigh
  /-- THRESH, phase code 8 (R160). -/
  | thresh
  /-- BITDEC, phase code 9 (R161). -/
  | bitdec
  /-- CHECK, phase code 10 (R170). -/
  | check
  /-- CALIB, phase code 11 (R181). -/
  | calib
  /-- Phase code 12: unreachable, no semantics (R21). -/
  | phase12
  /-- Phase code 13: unreachable, no semantics (R21). -/
  | phase13
  /-- Phase code 14: unreachable, no semantics (R21). -/
  | phase14
  /-- Phase code 15: unreachable, no semantics (R21). -/
  | phase15
  deriving DecidableEq, Repr

/-- A word in one of the three formats that carry instructions (R80). -/
inductive TableWord where
  /-- CMD32: the whole 32-bit word is the opcode. -/
  | cmd32 (opc : Word)
  /-- HT41: bit 40 is K, bits 39:32 are IDXW, bits 31:0 are DATA. -/
  | ht41 (w : BitVec 41)
  /-- PH4: the phase code. -/
  | ph4 (code : PhaseCode)
  deriving DecidableEq, Repr

end Sys2Proof
end

