-- ==== Sys2Proof/WellFormed.lean ====
section
/-! DEFINITION. Which terms of `Instr` stand for a row of the table: the general rows ILLEGAL, RD and WR cover
only the words that no narrower row covers (DEDUCED, log entry 14). -/

namespace Sys2Proof

/-- The index names an entry of `PDL` or `PDH`: 0x40 to 0x91 (R64). -/
abbrev Index.InWindow (idx : Index) : Prop := 0x40 ≤ idx.toNat ∧ idx.toNat ≤ 0x91

/-- An instruction is well formed when its word belongs to its own row and to no narrower one (R90, R91). -/
def Instr.wf : Instr → Bool
  | .illegal opc => opc ≠ 1#32 ∧ opc ≠ 2#32
  | .rd idx => 0x08 < idx.toNat ∧ ¬ idx.InWindow
  | .wr idx data => ¬ idx.InWindow ∧ ¬ (idx = 0x00#8 ∧ (data = 1#32 ∨ data = 2#32))
  | .read | .decode | .busyReject _ => true
  | .rdCmd | .rdStatus | .rdThresh | .rdFrameHi | .rdFrameLo => true
  | .rdHum | .rdTmag | .rdTempC | .rdTempF => true
  | .wrCmdRead | .wrCmdDecode | .wrPdl _ _ | .wrPdh _ _ | .rdPdl _ | .rdPdh _ => true
  | .idle | .wakeHigh | .wakeLow | .handover | .settle | .readyWait | .capLow | .capHigh => true
  | .thresh | .bitdec | .check | .calib => true
  | .phase12 | .phase13 | .phase14 | .phase15 => true

end Sys2Proof
end

