-- ==== Sys2Proof/Decode.lean ====
section
/-! DEFINITION. From words to instructions (R21, R80, R90, R91, R94) and back.
`decode` is total: a word is an instruction or is rejected by name. -/

namespace Sys2Proof

/-- Why a word is no instruction. -/
inductive DecodeError where
  /-- An HT41 word with `K = 0` and `DATA ≠ 0` (R94 (c)). -/
  | readDataNotZero
  /-- No format of R80 has this many bits. -/
  | noSuchFormat
  /-- The number does not fit the format's width. -/
  | tooWide
  deriving DecidableEq, Repr

/-! ### The pulse-duration window (R64, R92) -/

/-- The pair a window index names: `(idx - 0x40) div 2` (R92). -/
def windowPair (idx : Index) : Option Pair :=
  if h : 0x40 ≤ idx.toNat ∧ idx.toNat ≤ 0x91 then some ⟨(idx.toNat - 0x40) / 2, by omega⟩ else none

/-- The half a window index names: `PDH` when `(idx - 0x40) mod 2 = 1` (R92). -/
def windowHigh (idx : Index) : Bool := (idx.toNat - 0x40) % 2 = 1

/-- The word index of `PDL[i]`: 0x40 + 2i (R64). -/
def pdlIndex (i : Pair) : Index := BitVec.ofNat 8 (0x40 + 2 * i.val)

/-- The word index of `PDH[i]`: 0x41 + 2i (R64). -/
def pdhIndex (i : Pair) : Index := BitVec.ofNat 8 (0x41 + 2 * i.val)

/-! ### The fields of HT41 (R80, R91) -/

/-- K, bit 40: false is a read, true is a write. -/
def ht41K (w : BitVec 41) : Bool := w.getLsbD 40

/-- IDXW, bits 39:32. -/
def ht41Idx (w : BitVec 41) : Index := w.extractLsb' 32 8

/-- DATA, bits 31:0. -/
def ht41Data (w : BitVec 41) : Word := w.extractLsb' 0 32

/-- The HT41 word of a transaction: `K * 2^40 + IDXW * 2^32 + DATA` (R91). -/
def ht41 (k : Bool) (idx : Index) (data : Word) : BitVec 41 := BitVec.ofBool k ++ idx ++ data

/-! ### Decoding -/

/-- The instruction of a value written to `CMD`: the busy test comes first (R90, R110). -/
def decodeCmd (busy : Bool) (opc : Word) : Instr :=
  if busy then .busyReject opc
  else if opc = 1#32 then .read
  else if opc = 2#32 then .decode
  else .illegal opc

/-- The instruction of a host read of a word index (R64). -/
def decodeRead (idx : Index) : Instr :=
  match windowPair idx with
  | some i => if windowHigh idx then .rdPdh i else .rdPdl i
  | none =>
    if idx = 0x00#8 then .rdCmd
    else if idx = 0x01#8 then .rdStatus
    else if idx = 0x02#8 then .rdThresh
    else if idx = 0x03#8 then .rdFrameHi
    else if idx = 0x04#8 then .rdFrameLo
    else if idx = 0x05#8 then .rdHum
    else if idx = 0x06#8 then .rdTmag
    else if idx = 0x07#8 then .rdTempC
    else if idx = 0x08#8 then .rdTempF
    else .rd idx

/-- The instruction of a host write to a word index (R64). -/
def decodeWrite (idx : Index) (data : Word) : Instr :=
  match windowPair idx with
  | some i => if windowHigh idx then .wrPdh i data else .wrPdl i data
  | none =>
    if idx = 0x00#8 ∧ data = 1#32 then .wrCmdRead
    else if idx = 0x00#8 ∧ data = 2#32 then .wrCmdDecode
    else .wr idx data

/-- The instruction of an HT41 word; a read whose data field is not 0 is no transaction (R94 (c)). -/
def decodeHt41 (w : BitVec 41) : Except DecodeError Instr :=
  if ht41K w then .ok (decodeWrite (ht41Idx w) (ht41Data w))
  else if ht41Data w = 0#32 then .ok (decodeRead (ht41Idx w))
  else .error .readDataNotZero

/-- The instruction a tick executes: the phase of `PHASE` (R21). -/
def decodePhase (code : PhaseCode) : Instr :=
  match code.toNat with
  | 0 => .idle
  | 1 => .wakeHigh
  | 2 => .wakeLow
  | 3 => .handover
  | 4 => .settle
  | 5 => .readyWait
  | 6 => .capLow
  | 7 => .capHigh
  | 8 => .thresh
  | 9 => .bitdec
  | 10 => .check
  | 11 => .calib
  | 12 => .phase12
  | 13 => .phase13
  | 14 => .phase14
  | _ => .phase15

/-- The instruction of a word of any of the three formats.
`busy` is the machine's `BUSY`, which R110 tests before it looks at a CMD32 word. -/
def decode (busy : Bool) : TableWord → Except DecodeError Instr
  | .cmd32 opc => .ok (decodeCmd busy opc)
  | .ht41 w => decodeHt41 w
  | .ph4 code => .ok (decodePhase code)

/-- A number of `nbits` bits as a word of the format that has that width (R95): 4 bits (one byte) is PH4,
32 bits is CMD32, 41 bits (six bytes) is HT41 (DESIGN CHOICE, log entry 15). -/
def tableWord (nbits w : Nat) : Except DecodeError TableWord :=
  if nbits = 4 ∨ nbits = 8 then
    if w < 2 ^ 4 then .ok (.ph4 (BitVec.ofNat 4 w)) else .error .tooWide
  else if nbits = 32 then
    if w < 2 ^ 32 then .ok (.cmd32 (BitVec.ofNat 32 w)) else .error .tooWide
  else if nbits = 41 ∨ nbits = 48 then
    if w < 2 ^ 41 then .ok (.ht41 (BitVec.ofNat 41 w)) else .error .tooWide
  else .error .noSuchFormat

/-- The instruction the decoder reads from a word of the opcode table, in the machine as reset leaves it (`BUSY = 0`;
DEDUCED, log entry 13). -/
def decodeTableWord (nbits w : Nat) : Option Instr :=
  match tableWord nbits w with
  | .ok tw => (decode false tw).toOption
  | .error _ => none

/-! ### Encoding -/

/-- The word of an instruction (R21, R90, R91). -/
def encode : Instr → TableWord
  | .read => .cmd32 0x00000001#32
  | .decode => .cmd32 0x00000002#32
  | .illegal opc => .cmd32 opc
  | .busyReject opc => .cmd32 opc
  | .rd idx => .ht41 (ht41 false idx 0#32)
  | .wr idx data => .ht41 (ht41 true idx data)
  | .rdCmd => .ht41 (ht41 false 0x00#8 0#32)
  | .rdStatus => .ht41 (ht41 false 0x01#8 0#32)
  | .rdThresh => .ht41 (ht41 false 0x02#8 0#32)
  | .rdFrameHi => .ht41 (ht41 false 0x03#8 0#32)
  | .rdFrameLo => .ht41 (ht41 false 0x04#8 0#32)
  | .rdHum => .ht41 (ht41 false 0x05#8 0#32)
  | .rdTmag => .ht41 (ht41 false 0x06#8 0#32)
  | .rdTempC => .ht41 (ht41 false 0x07#8 0#32)
  | .rdTempF => .ht41 (ht41 false 0x08#8 0#32)
  | .wrCmdRead => .ht41 (ht41 true 0x00#8 1#32)
  | .wrCmdDecode => .ht41 (ht41 true 0x00#8 2#32)
  | .wrPdl i data => .ht41 (ht41 true (pdlIndex i) data)
  | .wrPdh i data => .ht41 (ht41 true (pdhIndex i) data)
  | .rdPdl i => .ht41 (ht41 false (pdlIndex i) 0#32)
  | .rdPdh i => .ht41 (ht41 false (pdhIndex i) 0#32)
  | .idle => .ph4 0#4
  | .wakeHigh => .ph4 1#4
  | .wakeLow => .ph4 2#4
  | .handover => .ph4 3#4
  | .settle => .ph4 4#4
  | .readyWait => .ph4 5#4
  | .capLow => .ph4 6#4
  | .capHigh => .ph4 7#4
  | .thresh => .ph4 8#4
  | .bitdec => .ph4 9#4
  | .check => .ph4 10#4
  | .calib => .ph4 11#4
  | .phase12 => .ph4 12#4
  | .phase13 => .ph4 13#4
  | .phase14 => .ph4 14#4
  | .phase15 => .ph4 15#4

/-- The value of `BUSY` under which a CMD32 word means the instruction (R110); the other formats do not look at it. -/
def Instr.needsBusy : Instr → Option Bool
  | .read | .decode | .illegal _ => some false
  | .busyReject _ => some true
  | .rd _ | .wr _ _ => none
  | .rdCmd | .rdStatus | .rdThresh | .rdFrameHi | .rdFrameLo => none
  | .rdHum | .rdTmag | .rdTempC | .rdTempF => none
  | .wrCmdRead | .wrCmdDecode | .wrPdl _ _ | .wrPdh _ _ | .rdPdl _ | .rdPdh _ => none
  | .idle | .wakeHigh | .wakeLow | .handover | .settle | .readyWait | .capLow | .capHigh => none
  | .thresh | .bitdec | .check | .calib => none
  | .phase12 | .phase13 | .phase14 | .phase15 => none

/-- The instruction's word is read as the instruction while `BUSY` has this value. -/
def Instr.fitsBusy (i : Instr) (busy : Bool) : Bool :=
  match i.needsBusy with
  | some b => b = busy
  | none => true

end Sys2Proof
end

