-- ==== Sys2Proof/Config.lean ====
section
/-! DEFINITION. The static parameters of rules R9 and R11, and the free values of rules R6 and R65.
What is `opaque` here has no body: no proof can see a value of it, so a claim holds whatever it is. -/

namespace Sys2Proof

/-- The static parameters a rule reads (R9, R11).
They are fixed for one machine: no step writes them (R230); DESIGN CHOICE, log entry 8.
TICK_HZ and HOSTBUS are read by no rule and have no field (log entry 16). -/
structure Params where
  /-- WAKE_HIGH_TICKS, `W`: 1 to 2^32 - 1 (R11). -/
  wakeHighTicks : BitVec 32
  /-- WAKE_LOW_TICKS, `L`: 1 to 2^32 - 1 (R11). -/
  wakeLowTicks : BitVec 32
  /-- SETTLE_TICKS, `S`: 1 to 2^32 - 1 (R11). -/
  settleTicks : BitVec 32
  /-- MAXCOUNT, `M`: 0 to 65535 (R9). -/
  maxCount : Count
  deriving DecidableEq, Repr

/-- The parameter values rules R9 and R11 call legal: the three tick counts are not 0.
The upper bounds are the widths of the fields. -/
abbrev Params.Legal (p : Params) : Prop :=
  p.wakeHighTicks ≠ 0#32 ∧ p.wakeLowTicks ≠ 0#32 ∧ p.settleTicks ≠ 0#32

/-- `WAKE_HIGH_TICKS - 1` of the platform, left OPEN by R11. -/
opaque Config.wakeHighLess : Fin 4294967295

/-- `WAKE_LOW_TICKS - 1` of the platform, left OPEN by R11. -/
opaque Config.wakeLowLess : Fin 4294967295

/-- `SETTLE_TICKS - 1` of the platform, left OPEN by R11. -/
opaque Config.settleLess : Fin 4294967295

/-- MAXCOUNT of this hardware: "the value this hardware takes is 32000" (R9). -/
def Config.maxCount : Count := 32000#16

/-- The parameters the machine has at reset: MAXCOUNT is 32000, the other three are any legal value. -/
def Config.platform : Params where
  wakeHighTicks := BitVec.ofNat 32 (Config.wakeHighLess.val + 1)
  wakeLowTicks := BitVec.ofNat 32 (Config.wakeLowLess.val + 1)
  settleTicks := BitVec.ofNat 32 (Config.settleLess.val + 1)
  maxCount := Config.maxCount

/-- TESTCFG of R11 (W = 3, L = 2, S = 2), with MAXCOUNT stated per vector. -/
def Config.testcfg (m : Count) : Params where
  wakeHighTicks := 3#32
  wakeLowTicks := 2#32
  settleTicks := 2#32
  maxCount := m

/-- The value of the n-th host read that R65 leaves unspecified: "a free 32-bit draw, under no law, fresh at every read"
(DESIGN CHOICE in its form, log entry 4). -/
opaque Config.freeRead : Nat → Word

/-- The line sample of a tick for which no event of the script gives one: R6 puts no law on it
(DESIGN CHOICE in its form, log entry 3). -/
opaque Config.freeSample : Nat → Bool

end Sys2Proof
end

