-- ==== Sys2Proof/Machine/State.lean ====
section
/-! DEFINITION. The state of the machine as plain data: every element of rule R20, the static parameters,
and what the environment agents of rule R6 have in store for the coming steps. -/

namespace Sys2Proof.Machine

/-- Why the machine stops with no next state. -/
inductive Fault where
  /-- A tick found `PHASE` at one of the codes 12 to 15, which "no rule gives a meaning" (R21, R232).
  Raised by the four unreachable phase rows.
  Safe: no state reachable from reset has such a code (R43 (a)); DESIGN CHOICE, log entry 9. -/
  | phaseWithoutMeaning
  /-- A capture tick needed `PDL[IDX]` or `PDH[IDX]` with `IDX > 40`, an entry that does not exist (R23, R74).
  Raised by CAP_LOW and CAP_HIGH.
  Safe: no state reachable from reset has such an `IDX` (R43 (d)); DESIGN CHOICE, log entry 10. -/
  | noSuchPair
  deriving DecidableEq, Repr

/-- Why an event has no meaning. -/
inductive Refusal where
  /-- Raised by `exec` for an instruction that has no meaning yet; no arm of this model uses it. Safe. -/
  | notModelled (mnemonic : String)
  /-- Raised by `step` for an HT41 word with `K = 0` and `DATA ≠ 0`, "not a transaction of this spec" (R94 (c)).
  Safe: the move is not accepted; log entry 18. -/
  | readDataNotZero
  deriving DecidableEq, Repr

/-- One event of the total order of R70: a tick or a host access (DESIGN CHOICE in its form, log entry 1). -/
inductive Event where
  /-- A tick with the level of `rst` and the sample of `line_in` (R6, R230). -/
  | tick (rst : Bool) (sample : Bool)
  /-- A host access, spelled as an HT41 word (R91). -/
  | transaction (w : BitVec 41)
  /-- A host write to `CMD`, spelled as the CMD32 value written (R90; DEDUCED, log entry 12). -/
  | command (opc : Word)
  deriving DecidableEq, Repr

/-- The machine's state. -/
structure State where
  /-- `PHASE`, 4 bits: the sequencer, the block's program counter (R21). -/
  phase : PhaseCode
  /-- `IDX`, 6 bits: the pair being captured (R22). -/
  idx : BitVec 6
  /-- `CNT`, 32 bits: the hidden counter (R35). -/
  cnt : BitVec 32
  /-- `PDL[0 to 40]`, 16 bits each (R23). -/
  pdl : PulseFile
  /-- `PDH[0 to 40]`, 16 bits each (R23). -/
  pdh : PulseFile
  /-- `THRESH`, 16 bits (R24). -/
  thresh : Count
  /-- `FRAME`, 40 bits (R25). -/
  frame : Frame
  /-- `HUM`, 12 bits, tenths of a percent (R26). -/
  hum : BitVec 12
  /-- `TMAG`, 12 bits, tenths of a degree (R27). -/
  tmag : BitVec 12
  /-- `TEMP_C`, 32 bits signed, tenths of a degree Celsius (R28). -/
  tempC : BitVec 32
  /-- `TEMP_F`, 32 bits signed, hundredths of a degree Fahrenheit (R28). -/
  tempF : BitVec 32
  /-- `VALID` (R29). -/
  valid : Bool
  /-- `ERR`, 2 bits (R30). -/
  err : BitVec 2
  /-- `ESITE`, 4 bits (R31). -/
  esite : BitVec 4
  /-- `BUSY` (R32). -/
  busy : Bool
  /-- `DONE` (R32). -/
  done : Bool
  /-- `ILLCMD`, sticky (R33). -/
  illcmd : Bool
  /-- `BUSYREJ`, sticky (R33). -/
  busyrej : Bool
  /-- `TNEG` (R34). -/
  tneg : Bool
  /-- `HFB` (R34). -/
  hfb : Bool
  /-- `TFB` (R34). -/
  tfb : Bool
  /-- `LINE_OE` (R36). -/
  lineOe : Bool
  /-- `LINE_OUT` (R36). -/
  lineOut : Bool
  /-- `PRIO` (R37). -/
  prio : Bool
  /-- The static parameters (R9, R11): an input of the step, held here so that it is plain data (log entry 8). -/
  params : Params
  /-- The level of the port `line_in` at the last tick, the sample `s` of that tick (R6, R40; log entry 6). -/
  lineIn : Bool
  /-- The value the last host read returned (R62): the data side of the abstract host port (R40; log entry 5). -/
  hostData : Word
  /-- The events the environment supplies to the coming steps, first event first (R6, R70; log entry 1). -/
  script : List Event
  /-- How many free values have been drawn (R65, R6); the model's own field (log entry 7). -/
  draws : Nat
  deriving DecidableEq, Repr

/-- The outcome of one instruction. -/
abbrev Result := Host.Outcome State Fault Refusal

/-- The state after reset: every element of R20 at the value of R44, no event in store (log entry 2).
The four fields that are no elements of R20 and no parameters start at a value of the model (log entries 5, 6, 7). -/
def State.reset : State where
  phase := 0#4
  idx := 0#6
  cnt := 0#32
  pdl := Vector.replicate 41 0#16
  pdh := Vector.replicate 41 0#16
  thresh := 0#16
  frame := 0#40
  hum := 0#12
  tmag := 0#12
  tempC := 0#32
  tempF := 0#32
  valid := false
  err := 0#2
  esite := 0#4
  busy := false
  done := false
  illcmd := false
  busyrej := false
  tneg := false
  hfb := false
  tfb := false
  lineOe := false
  lineOut := false
  prio := false
  params := Config.platform
  lineIn := false
  hostData := 0
  script := []
  draws := 0

end Sys2Proof.Machine
end

