-- ==== Sys2Proof/Machine/Operands.lean ====
section
/-! DEFINITION. The operands of the phases and of host accesses: entries of the pulse-duration files (R74, R92),
the threshold (R160), the bit comparator and the frame (R82, R161), the bytes and the checksum (R25, R170),
and the calibration values (R181). -/

namespace Sys2Proof.Machine

/-! ### Pulse-duration entries -/

/-- The pair `IDX` names, if there is such a pair: 0 to 40 (R22, R74). -/
def pairOf (idx : BitVec 6) : Option Pair :=
  if h : idx.toNat < 41 then some ⟨idx.toNat, h⟩ else none

/-- The part of a written word that a duration entry stores: `v[15:0]` (R63, R92). -/
def storedCount (v : Word) : Count := v.extractLsb' 0 16

/-- A duration entry as the host reads it: zero-extended to 32 bits (R92). -/
def readCount (c : Count) : Word := c.setWidth 32

/-- The entries of pairs 1 to 40, the payload, pair 1 first; entry 0 is read by no rule of the block (R23, R74). -/
def payload (f : PulseFile) : List Count := f.toList.drop 1

/-! ### The threshold and the comparator -/

/-- `SUM = PDL[1] + PDL[2] + ... + PDL[40]`, exact (R160). -/
def lowSum (pdl : PulseFile) : Nat := ((payload pdl).map BitVec.toNat).sum

/-- The threshold: `SUM div 40` (R160). -/
def thresholdOf (pdl : PulseFile) : Count := BitVec.ofNat 16 (lowSum pdl / 40)

/-- The comparator: bit 1 exactly when the high duration is at least the threshold, unsigned (R81, R161). -/
def bitOf (thr high : Count) : Bool := thr.toNat ≤ high.toNat

/-- The frame with `FRAME[40 - i]` the bit decoded from `PDH[i]`, for i from 1 to 40 (R82, R161). -/
def frameOf (thr : Count) (pdh : PulseFile) : Frame :=
  BitVec.ofFnLE fun j : Fin 40 => bitOf thr pdh[40 - j.val]

/-! ### The bytes of the frame and the checksum -/

/-- `byte(k) = FRAME[39 - 8k : 32 - 8k]`, for k from 0 to 4 (R25). -/
def frameByte (f : Frame) (k : Fin 5) : Byte := f.extractLsb' (32 - 8 * k.val) 8

/-- `S10`, the exact sum of the first four bytes (R170). -/
def checkSum (f : Frame) : Nat :=
  (frameByte f 0).toNat + (frameByte f 1).toNat + (frameByte f 2).toNat + (frameByte f 3).toNat

/-- `S10 mod 256 = byte(4)` (R170). -/
abbrev ChecksumOk (f : Frame) : Prop := checkSum f % 256 = (frameByte f 4).toNat

/-! ### Calibration -/

/-- `H16 = b0 * 256 + b1` (R181). -/
def humWord (f : Frame) : Nat := (frameByte f 0).toNat * 256 + (frameByte f 1).toNat

/-- The humidity fallback applies: `H16 > 1000` (R181). -/
abbrev HumFallback (f : Frame) : Prop := 1000 < humWord f

/-- The humidity in tenths: `b0 * 10` in the fallback, else `H16` (R181). -/
def humTenths (f : Frame) : Nat := if HumFallback f then (frameByte f 0).toNat * 10 else humWord f

/-- `T15 = b2[6:0] * 256 + b3` (R181). -/
def tempWord (f : Frame) : Nat := (frameByte f 2).toNat % 128 * 256 + (frameByte f 3).toNat

/-- The temperature fallback applies: `T15 > 1250` (R181). -/
abbrev TempFallback (f : Frame) : Prop := 1250 < tempWord f

/-- `mag` in tenths: all eight bits of `b2` times 10 in the fallback, else `T15` (R181). -/
def tempMagnitude (f : Frame) : Nat := if TempFallback f then (frameByte f 2).toNat * 10 else tempWord f

/-- The sign flag `b2[7]` (R181). -/
def tempSign (f : Frame) : Bool := (frameByte f 2).getLsbD 7

/-- `c10`: the magnitude, negated at 32 bits when the sign flag is set (R181). -/
def celsiusTenths (f : Frame) : BitVec 32 :=
  if tempSign f then -BitVec.ofNat 32 (tempMagnitude f) else BitVec.ofNat 32 (tempMagnitude f)

/-- `18 * c10 + 3200` in signed 32-bit arithmetic (R181). -/
def fahrenheitHundredths (c10 : BitVec 32) : BitVec 32 := 18#32 * c10 + 3200#32

end Sys2Proof.Machine
end

