-- ==== Sys2Proof/Machine/Flags.lean ====
section
/-! DEFINITION. The flags: the writes that a command's acceptance and a run's end share, the two sticky flags (R33),
and the `STATUS` view (R38). -/

namespace Sys2Proof.Machine

/-- The flag writes of `AcceptClear` (R115). -/
def acceptFlags (s : State) : State :=
  { s with
    valid := false, err := 0#2, esite := 0#4
    illcmd := false, busyrej := false
    tneg := false, hfb := false, tfb := false
    busy := true, done := false }

/-- The writes every end of a run makes: `PHASE <- IDLE; BUSY <- 0; DONE <- 1` (R181, R201, R202). -/
def endRun (s : State) : State := { s with phase := 0#4, busy := false, done := true }

/-- `ILLCMD <- 1` and nothing else (R113). -/
def setIllegal (s : State) : State := { s with illcmd := true }

/-- `BUSYREJ <- 1` and nothing else (R63, R114). -/
def setBusyReject (s : State) : State := { s with busyrej := true }

/-- The `STATUS` register, a view of the flags and the sequencer (R38), from bit 31 down. -/
def statusWord (s : State) : Word :=
  0#2 ++ s.esite ++ s.idx ++ s.phase ++ 0#3
    ++ BitVec.ofBool s.tfb ++ BitVec.ofBool s.hfb ++ BitVec.ofBool s.tneg
    ++ BitVec.ofBool s.lineOut ++ BitVec.ofBool s.lineOe ++ BitVec.ofBool s.prio
    ++ BitVec.ofBool s.busyrej ++ BitVec.ofBool s.illcmd
    ++ s.err ++ BitVec.ofBool s.valid ++ BitVec.ofBool s.done ++ BitVec.ofBool s.busy

end Sys2Proof.Machine
end

