-- ==== Sys2Proof/Machine/Ops.lean ====
section
/-! DEFINITION. The named operations every instruction is written with: host reads and writes (R62, R63), command
dispatch and acceptance (R110 to R115), the two exceptions (R201, R202), the wait counter of the timed phases
(R131, R132, R134), the reset tick (R230), the ports (R40) and the next event (R70). -/

namespace Sys2Proof.Machine

/-! ### The two exceptions -/

/-- `raise Timeout(site)` (R201). -/
def raiseTimeout (site : BitVec 4) (s : State) : State :=
  endRun { s with err := 1#2, esite := site, prio := false }

/-- `raise ChecksumMismatch` (R202). -/
def raiseChecksumMismatch (s : State) : State := endRun { s with err := 2#2 }

/-! ### Commands -/

/-- `AcceptClear` (R115). -/
def acceptClear (s : State) : State :=
  { acceptFlags s with
    thresh := 0#16, frame := 0#40
    hum := 0#12, tmag := 0#12, tempC := 0#32, tempF := 0#32
    idx := 0#6, cnt := 0#32 }

/-- `for i from 0 to 40: PDL[i] <- 0; PDH[i] <- 0` (R111). -/
def clearDurations (s : State) : State :=
  { s with pdl := Vector.replicate 41 0#16, pdh := Vector.replicate 41 0#16 }

/-- The effect of an accepted READ (R111). -/
def acceptRead (s : State) : State :=
  { clearDurations (acceptClear s) with lineOe := true, lineOut := true, phase := 1#4 }

/-- The effect of an accepted DECODE (R112). -/
def acceptDecode (s : State) : State := { acceptClear s with phase := 8#4 }

/-- A host write of `v` to `CMD` (R110): the busy test comes first. -/
def hostCommand (v : Word) (s : State) : State :=
  if s.busy then setBusyReject s
  else if v = 1#32 then acceptRead s
  else if v = 2#32 then acceptDecode s
  else setIllegal s

/-! ### Host reads and writes -/

/-- The view of a word index (R64), from the registers as they stand: 0 for `CMD` and the reserved indices (R39, R62). -/
def readView (addr : Index) (s : State) : Word :=
  match windowPair addr with
  | some i => readCount (if windowHigh addr then s.pdh[i] else s.pdl[i])
  | none =>
    if addr = 0x01#8 then statusWord s
    else if addr = 0x02#8 then readCount s.thresh
    else if addr = 0x03#8 then s.frame.extractLsb' 8 32
    else if addr = 0x04#8 then (s.frame.extractLsb' 0 8).setWidth 32
    else if addr = 0x05#8 then s.hum.setWidth 32
    else if addr = 0x06#8 then s.tmag.setWidth 32
    else if addr = 0x07#8 then s.tempC
    else if addr = 0x08#8 then s.tempF
    else 0

/-- The indices whose read is unspecified while `BUSY = 1`: `THRESH`, `FRAME_HI`, `FRAME_LO` and the window (R62, R65). -/
abbrev HiddenWhileBusy (addr : Index) : Prop :=
  (2 ≤ addr.toNat ∧ addr.toNat ≤ 4) ∨ (0x40 ≤ addr.toNat ∧ addr.toNat ≤ 0x91)

/-- `MemRead(addr, 4)` (R62): the value goes to the host port and no state of the block changes.
A read that R65 leaves unspecified returns the next free value (log entry 4). -/
def memRead (addr : Index) (s : State) : State :=
  if HiddenWhileBusy addr ∧ s.busy then
    { s with hostData := Config.freeRead s.draws, draws := s.draws + 1 }
  else { s with hostData := readView addr s }

/-- `MemWrite(addr, 4, v)` (R63). -/
def memWrite (addr : Index) (v : Word) (s : State) : State :=
  if addr = 0x00#8 then hostCommand v s
  else
    match windowPair addr with
    | some i =>
      if s.busy then setBusyReject s
      else if windowHigh addr then { s with pdh := s.pdh.set i (storedCount v) }
      else { s with pdl := s.pdl.set i (storedCount v) }
    | none => s

/-! ### Ticks -/

/-- One tick of a phase that lasts `n` ticks (R131, R132, R134): on the tick where `CNT + 1 >= n` the counter is
cleared and `leave` is made, else the counter goes up by one. The comparison is exact (DEDUCED, log entry 11). -/
def waitTicks (n : BitVec 32) (leave : State → State) (s : State) : State :=
  if n.toNat ≤ s.cnt.toNat + 1 then leave { s with cnt := 0#32 } else { s with cnt := s.cnt + 1#32 }

/-- A tick with `rst = 1` (R230): every element of R20 gets its reset value, and no phase executes.
The parameters, the host's read data, the line level, the events to come and the count of draws are no elements of R20. -/
def resetTick (s : State) : State :=
  { s with
    phase := 0#4, idx := 0#6, cnt := 0#32
    pdl := Vector.replicate 41 0#16, pdh := Vector.replicate 41 0#16
    thresh := 0#16, frame := 0#40
    hum := 0#12, tmag := 0#12, tempC := 0#32, tempF := 0#32
    valid := false, err := 0#2, esite := 0#4
    busy := false, done := false, illcmd := false, busyrej := false
    tneg := false, hfb := false, tfb := false
    lineOe := false, lineOut := false, prio := false }

/-- The event the next step handles, and the state it is handled in (R6, R70).
When no event is in store the next event is a tick without reset, with a free sample (DESIGN CHOICE, log entry 3). -/
def takeEvent (s : State) : Event × State :=
  match s.script with
  | e :: rest => (e, { s with script := rest })
  | [] => (.tick false (Config.freeSample s.draws), { s with draws := s.draws + 1 })

/-- The state in which an event's instruction executes: a tick sets the level of `line_in` (R6). -/
def sampleLine (sample : Bool) (s : State) : State := { s with lineIn := sample }

/-- Store a table word where the next step fetches: a host access becomes the next event, and a phase code goes to
`PHASE` with a tick as the next event, whose sample is the level the port has now (DESIGN CHOICE, log entry 17). -/
def placeWord (tw : TableWord) (s : State) : State :=
  match tw with
  | .cmd32 opc => { s with script := .command opc :: s.script }
  | .ht41 w => { s with script := .transaction w :: s.script }
  | .ph4 code => { s with phase := code, script := .tick false s.lineIn :: s.script }

/-! ### Ports -/

/-- The output ports during a tick, from the registers at its start (R36, R37, R40). -/
structure Ports where
  lineOut : Bool
  lineOe : Bool
  prioReq : Bool
  busy : Bool
  done : Bool
  deriving DecidableEq, Repr

/-- The levels of the output ports (R40). -/
def ports (s : State) : Ports where
  lineOut := s.lineOut
  lineOe := s.lineOe
  prioReq := s.prio
  busy := s.busy
  done := s.done

end Sys2Proof.Machine
end

