-- ==== Sys2Proof/Machine/Capture.lean ====
section
/-! DEFINITION. The three phases that look at the line: READY_WAIT, CAP_LOW, CAP_HIGH (R140 to R145).
A level change is tested before the bound (R204). -/

namespace Sys2Proof.Machine

/-- READY_WAIT: wait while the line is High, until it is sampled Low (R140). -/
def execReadyWait (s : State) : Result :=
  .next
    (if s.lineIn = false then { s with idx := 0#6, phase := 6#4 }
     else if s.cnt = s.params.maxCount.setWidth 32 then raiseTimeout 5 s
     else { s with cnt := s.cnt + 1#32 })

/-- CAP_LOW: count Low samples in `PDL[IDX]` (R141). An `IDX` above 40 names no entry (log entry 10). -/
def execCapLow (s : State) : Result :=
  if s.lineIn then .next { s with phase := 7#4 }
  else
    match pairOf s.idx with
    | none => .fault .noSuchPair
    | some i =>
      .next
        (if s.pdl[i] = s.params.maxCount then raiseTimeout 6 s
         else { s with pdl := s.pdl.set i (s.pdl[i] + 1#16) })

/-- The end of a high pulse: the next pair, or the end of capture after pair 40 (R142; log entry 11). -/
def nextPair (s : State) : State :=
  if s.idx = 40#6 then { s with prio := false, phase := 8#4 }
  else { s with idx := s.idx + 1#6, phase := 6#4 }

/-- CAP_HIGH: count High samples in `PDH[IDX]` (R142). An `IDX` above 40 names no entry (log entry 10). -/
def execCapHigh (s : State) : Result :=
  if s.lineIn = false then .next (nextPair s)
  else
    match pairOf s.idx with
    | none => .fault .noSuchPair
    | some i =>
      .next
        (if s.pdh[i] = s.params.maxCount then raiseTimeout 7 s
         else { s with pdh := s.pdh.set i (s.pdh[i] + 1#16) })

end Sys2Proof.Machine
end

