-- ==== Sys2Proof/Machine/Commands.lean ====
section
/-! DEFINITION. The CMD32 family (R111 to R114): a value written to `CMD`.
Each meaning is the host write of R110 with its value, so the busy test stands in each. -/

namespace Sys2Proof.Machine

/-- READ: the host writes 1 to `CMD` (R111). -/
def execRead (s : State) : Result := .next (hostCommand 1#32 s)

/-- DECODE: the host writes 2 to `CMD` (R112). -/
def execDecode (s : State) : Result := .next (hostCommand 2#32 s)

/-- ILLEGAL: the host writes any other value to `CMD` (R113). -/
def execIllegal (opc : Word) (s : State) : Result := .next (hostCommand opc s)

/-- BUSY_REJECT: the host writes any value to `CMD` while a run is in progress (R114). -/
def execBusyReject (opc : Word) (s : State) : Result := .next (hostCommand opc s)

end Sys2Proof.Machine
end

