-- ==== Sys2Proof/Machine/Compute.lean ====
section
/-! DEFINITION. The compute phases: THRESH, BITDEC, CHECK, CALIB (R160, R161, R170, R181), one tick each
(log entry 20). -/

namespace Sys2Proof.Machine

/-- THRESH: the floor of the mean of the 40 payload low durations (R160). -/
def execThresh (s : State) : Result := .next { s with thresh := thresholdOf s.pdl, phase := 9#4 }

/-- BITDEC: compare each payload high duration against the threshold and assemble the frame (R161). -/
def execBitdec (s : State) : Result := .next { s with frame := frameOf s.thresh s.pdh, phase := 10#4 }

/-- CHECK: validate the checksum (R170). -/
def execCheck (s : State) : Result :=
  .next (if ChecksumOk s.frame then { s with phase := 11#4 } else raiseChecksumMismatch s)

/-- The reading registers and flags that CALIB writes (R181). -/
def setReading (s : State) : State :=
  { s with
    hum := BitVec.ofNat 12 (humTenths s.frame)
    hfb := HumFallback s.frame
    tmag := BitVec.ofNat 12 (tempMagnitude s.frame)
    tfb := TempFallback s.frame
    tneg := tempSign s.frame
    tempC := celsiusTenths s.frame
    tempF := fahrenheitHundredths (celsiusTenths s.frame)
    valid := true }

/-- CALIB: derive the reading and end the run in success (R181). -/
def execCalib (s : State) : Result := .next (endRun (setReading s))

end Sys2Proof.Machine
end

