-- ==== Sys2Proof/Machine/Transactions.lean ====
section
/-! DEFINITION. The HT41 family: host reads (R62, R65) and host writes (R63, R92). -/

namespace Sys2Proof.Machine

/-- RD: read of a word index (R62). -/
def execRd (idx : Index) (s : State) : Result := .next (memRead idx s)

/-- WR: write to a word index (R63). -/
def execWr (idx : Index) (data : Word) (s : State) : Result := .next (memWrite idx data s)

/-- RD CMD: `CMD` is write-only and holds no state; the read returns 0 (R39). -/
def execRdCmd (s : State) : Result := .next (memRead 0x00#8 s)

/-- RD STATUS: defined at all times (R38, R62). -/
def execRdStatus (s : State) : Result := .next (memRead 0x01#8 s)

/-- RD THRESH: unspecified while `BUSY = 1` (R24, R65). -/
def execRdThresh (s : State) : Result := .next (memRead 0x02#8 s)

/-- RD FRAME_HI: `FRAME[39:8]`, unspecified while `BUSY = 1` (R39, R65). -/
def execRdFrameHi (s : State) : Result := .next (memRead 0x03#8 s)

/-- RD FRAME_LO: `FRAME[7:0]`, unspecified while `BUSY = 1` (R39, R65). -/
def execRdFrameLo (s : State) : Result := .next (memRead 0x04#8 s)

/-- RD HUM: defined at all times (R26, R65). -/
def execRdHum (s : State) : Result := .next (memRead 0x05#8 s)

/-- RD TMAG: defined at all times (R27, R65). -/
def execRdTmag (s : State) : Result := .next (memRead 0x06#8 s)

/-- RD TEMP_C: defined at all times (R28, R65). -/
def execRdTempC (s : State) : Result := .next (memRead 0x07#8 s)

/-- RD TEMP_F: defined at all times (R28, R65). -/
def execRdTempF (s : State) : Result := .next (memRead 0x08#8 s)

/-- WR CMD, READ (R111). -/
def execWrCmdRead (s : State) : Result := .next (memWrite 0x00#8 1#32 s)

/-- WR CMD, DECODE (R112). -/
def execWrCmdDecode (s : State) : Result := .next (memWrite 0x00#8 2#32 s)

/-- WR PDL[i] (R63, R92). -/
def execWrPdl (i : Pair) (data : Word) (s : State) : Result := .next (memWrite (pdlIndex i) data s)

/-- WR PDH[i] (R63, R92). -/
def execWrPdh (i : Pair) (data : Word) (s : State) : Result := .next (memWrite (pdhIndex i) data s)

/-- RD PDL[i] (R62, R65). -/
def execRdPdl (i : Pair) (s : State) : Result := .next (memRead (pdlIndex i) s)

/-- RD PDH[i] (R62, R65). -/
def execRdPdh (i : Pair) (s : State) : Result := .next (memRead (pdhIndex i) s)

end Sys2Proof.Machine
end

