-- ==== Sys2Proof/Machine/Unreachable.lean ====
section
/-! DEFINITION. The phase codes 12 to 15, which "no rule gives a meaning" (R21, R232): the machine is stuck
(DESIGN CHOICE among what U12 allows, log entry 9). -/

namespace Sys2Proof.Machine

/-- A tick with `PHASE = 12` (R21). -/
def execPhase12 (_ : State) : Result := .fault .phaseWithoutMeaning

/-- A tick with `PHASE = 13` (R21). -/
def execPhase13 (_ : State) : Result := .fault .phaseWithoutMeaning

/-- A tick with `PHASE = 14` (R21). -/
def execPhase14 (_ : State) : Result := .fault .phaseWithoutMeaning

/-- A tick with `PHASE = 15` (R21). -/
def execPhase15 (_ : State) : Result := .fault .phaseWithoutMeaning

end Sys2Proof.Machine
end

