-- ==== Sys2Proof/Machine/Wake.lean ====
section
/-! DEFINITION. The phases that precede capture: IDLE, WAKE_HIGH, WAKE_LOW, HANDOVER, SETTLE (R130 to R134).
None of them reads the sample. -/

namespace Sys2Proof.Machine

/-- IDLE: no state changes (R130). -/
def execIdle (s : State) : Result := .next s

/-- WAKE_HIGH: hold the line driven high for `W` ticks, then drive it low (R131). -/
def execWakeHigh (s : State) : Result :=
  .next (waitTicks s.params.wakeHighTicks (fun t => { t with lineOut := false, phase := 2#4 }) s)

/-- WAKE_LOW: hold the line driven low for `L` ticks (R132). -/
def execWakeLow (s : State) : Result :=
  .next (waitTicks s.params.wakeLowTicks (fun t => { t with phase := 3#4 }) s)

/-- HANDOVER: request priority and release the line (R133). -/
def execHandover (s : State) : Result :=
  .next { s with prio := true, lineOe := false, cnt := 0#32, phase := 4#4 }

/-- SETTLE: ignore the line for `S` ticks (R134). -/
def execSettle (s : State) : Result :=
  .next (waitTicks s.params.settleTicks (fun t => { t with phase := 5#4 }) s)

end Sys2Proof.Machine
end

