-- ==== Sys2Proof/Machine/Dispatch.lean ====
section
/-! DEFINITION. One arm per constructor of `Instr`: each instruction's meaning. -/

namespace Sys2Proof.Machine

def exec (i : Instr) (s : State) : Host.Outcome State Fault Refusal :=
  match i with
  -- CMD32
  | .read => Sys2Proof.Machine.execRead s
  | .decode => Sys2Proof.Machine.execDecode s
  | .illegal opc => Sys2Proof.Machine.execIllegal opc s
  | .busyReject opc => Sys2Proof.Machine.execBusyReject opc s
  -- HT41
  | .rd idx => Sys2Proof.Machine.execRd idx s
  | .wr idx data => Sys2Proof.Machine.execWr idx data s
  | .rdCmd => Sys2Proof.Machine.execRdCmd s
  | .rdStatus => Sys2Proof.Machine.execRdStatus s
  | .rdThresh => Sys2Proof.Machine.execRdThresh s
  | .rdFrameHi => Sys2Proof.Machine.execRdFrameHi s
  | .rdFrameLo => Sys2Proof.Machine.execRdFrameLo s
  | .rdHum => Sys2Proof.Machine.execRdHum s
  | .rdTmag => Sys2Proof.Machine.execRdTmag s
  | .rdTempC => Sys2Proof.Machine.execRdTempC s
  | .rdTempF => Sys2Proof.Machine.execRdTempF s
  | .wrCmdRead => Sys2Proof.Machine.execWrCmdRead s
  | .wrCmdDecode => Sys2Proof.Machine.execWrCmdDecode s
  | .wrPdl k data => Sys2Proof.Machine.execWrPdl k data s
  | .wrPdh k data => Sys2Proof.Machine.execWrPdh k data s
  | .rdPdl k => Sys2Proof.Machine.execRdPdl k s
  | .rdPdh k => Sys2Proof.Machine.execRdPdh k s
  -- PH4
  | .idle => Sys2Proof.Machine.execIdle s
  | .wakeHigh => Sys2Proof.Machine.execWakeHigh s
  | .wakeLow => Sys2Proof.Machine.execWakeLow s
  | .handover => Sys2Proof.Machine.execHandover s
  | .settle => Sys2Proof.Machine.execSettle s
  | .readyWait => Sys2Proof.Machine.execReadyWait s
  | .capLow => Sys2Proof.Machine.execCapLow s
  | .capHigh => Sys2Proof.Machine.execCapHigh s
  | .thresh => Sys2Proof.Machine.execThresh s
  | .bitdec => Sys2Proof.Machine.execBitdec s
  | .check => Sys2Proof.Machine.execCheck s
  | .calib => Sys2Proof.Machine.execCalib s
  | .phase12 => Sys2Proof.Machine.execPhase12 s
  | .phase13 => Sys2Proof.Machine.execPhase13 s
  | .phase14 => Sys2Proof.Machine.execPhase14 s
  | .phase15 => Sys2Proof.Machine.execPhase15 s

end Sys2Proof.Machine
end

