-- ==== Sys2Proof/Machine/Fetch.lean ====
section
/-! DEFINITION. What an event asks for: the instruction it carries or names, and the state that instruction executes in. -/

namespace Sys2Proof.Machine

/-- The instruction an event asks for in a state, or why it asks for none: a tick executes the phase of `PHASE` (R21),
a host access the transaction it spells (R90, R91). -/
def eventInstr (e : Event) (s : State) : Except DecodeError Instr :=
  match e with
  | .tick _ _ => decode s.busy (.ph4 s.phase)
  | .transaction w => decode s.busy (.ht41 w)
  | .command opc => decode s.busy (.cmd32 opc)

/-- The state an event's instruction executes in: a tick first sets the level of `line_in` (R6). -/
def eventState (e : Event) (s : State) : State :=
  match e with
  | .tick _ sample => sampleLine sample s
  | .transaction _ => s
  | .command _ => s

end Sys2Proof.Machine
end

