-- ==== Sys2Proof/Machine/Step.lean ====
section
/-! DEFINITION. One step: one event of the total order (R70). A tick executes the phase of `PHASE`, or resets the block
when `rst = 1` (R230); a host access executes its transaction. -/

namespace Sys2Proof.Machine

/-- What the machine does on one event. -/
def onEvent (e : Event) (s : State) : Host.Outcome State Fault Refusal :=
  match e with
  | .tick true sample => .next (resetTick (sampleLine sample s))
  | e =>
    match eventInstr e s with
    | .ok i => exec i (eventState e s)
    | .error _ => .refused .readDataNotZero

/-- One step of the machine. -/
def step (s : State) : Host.Outcome State Fault Refusal := onEvent (takeEvent s).1 (takeEvent s).2

/-- The state with a word of the opcode table stored where the next step fetches its instruction.
A number that is no word of the table's formats is stored nowhere (log entries 2, 15, 17). -/
def State.withFetchWord (s : State) (nbits w : Nat) : State :=
  match tableWord nbits w with
  | .ok tw => placeWord tw s
  | .error _ => s

end Sys2Proof.Machine
end

