-- ==== Sys2Proof/Safety.lean ====
section
/-! DEFINITION. What a good state is: the invariants of rule R43, the stronger invariant that every step keeps,
and the words the statements about host writes and about whole runs are written in (R33, R143, R201, R244). -/

namespace Sys2Proof.Machine

/-- The reading registers and flags hold nothing: with `VALID = 0`, the invalid state of R29. -/
abbrev State.ReadingCleared (s : State) : Prop :=
  s.hum = 0#12 ∧ s.tmag = 0#12 ∧ s.tempC = 0#32 ∧ s.tempF = 0#32 ∧ s.tneg = false ∧ s.hfb = false ∧ s.tfb = false

/-- Rule R43, clause by clause. -/
structure State.Documented (s : State) : Prop where
  /-- (a) -/
  phase_le : s.phase.toNat ≤ 11
  /-- (b) -/
  busy_iff : s.busy = true ↔ s.phase ≠ 0#4
  /-- (c) -/
  not_busy_and_done : ¬ (s.busy = true ∧ s.done = true)
  /-- (d) -/
  idx_le : s.idx.toNat ≤ 40
  /-- (e) -/
  prio_phase : s.prio = true → 4 ≤ s.phase.toNat ∧ s.phase.toNat ≤ 7
  /-- (f) -/
  valid_outcome : s.valid = true → s.err = 0#2 ∧ s.busy = false
  /-- (g) -/
  err_outcome : s.err ≠ 0#2 → s.done = true ∧ s.valid = false ∧ s.ReadingCleared
  /-- (h) -/
  err_ne_three : s.err ≠ 3#2
  /-- (h) -/
  esite_values : s.esite = 0#4 ∨ s.esite = 5#4 ∨ s.esite = 6#4 ∨ s.esite = 7#4
  /-- (h) -/
  esite_iff : s.esite ≠ 0#4 ↔ s.err = 1#2
  /-- (i): the capture phases occur in READ runs only. -/
  counts_le : 5 ≤ s.phase.toNat → s.phase.toNat ≤ 7 →
    s.cnt.toNat ≤ s.params.maxCount.toNat ∧
      ∀ i : Pair, s.pdl[i].toNat ≤ s.params.maxCount.toNat ∧ s.pdh[i].toNat ≤ s.params.maxCount.toNat
  /-- (j) -/
  lineOe_iff : s.lineOe = true ↔ 1 ≤ s.phase.toNat ∧ s.phase.toNat ≤ 3
  /-- (k) -/
  valid_checksum : s.valid = true → ChecksumOk s.frame

/-- The number of ticks the phase that uses `CNT` as its tick counter lasts, where there is one (R131, R132, R134). -/
def State.holdTicks (s : State) : Option (BitVec 32) :=
  match s.phase.toNat with
  | 1 => some s.params.wakeHighTicks
  | 2 => some s.params.wakeLowTicks
  | 4 => some s.params.settleTicks
  | _ => none

/-- The invariant every step keeps: rule R43, and what it needs to be kept. -/
structure State.Inv (s : State) : Prop extends State.Documented s where
  /-- The parameters are legal (R9, R11). -/
  params_legal : s.params.Legal
  /-- `VALID = 0` goes with the invalid state (R29). -/
  invalid_cleared : s.valid = false → s.ReadingCleared
  /-- The level register is High in WAKE_HIGH only (R36, R235). -/
  lineOut_iff : s.lineOut = true ↔ s.phase = 1#4
  /-- A wait counter has not reached its phase's length (R131, R132, R134). -/
  cnt_lt : ∀ n, s.holdTicks = some n → s.cnt.toNat < n.toNat
  /-- Before capture the pair index is 0 (R22). -/
  idx_zero : 1 ≤ s.phase.toNat → s.phase.toNat ≤ 5 → s.idx = 0#6
  /-- Entries of pairs not reached yet are 0 (R111 corner case (b)). -/
  fresh : 1 ≤ s.phase.toNat → s.phase.toNat ≤ 7 → ∀ i : Pair,
    (s.idx.toNat < i.val ∨ s.phase.toNat ≤ 5 → s.pdl[i] = 0#16) ∧
      (s.idx.toNat < i.val ∨ s.phase.toNat ≤ 6 ∧ s.idx.toNat = i.val → s.pdh[i] = 0#16)
  /-- Until capture has finished there is no threshold and no frame (R142 corner case (c)). -/
  undecoded : 1 ≤ s.phase.toNat → s.phase.toNat ≤ 7 → s.thresh = 0#16 ∧ s.frame = 0#40
  /-- CALIB is entered only when the checksum matched (R181). -/
  calib_checksum : s.phase = 11#4 → ChecksumOk s.frame

/-- The longest the run in progress can still last, in ticks (R244); 0 when no run is in progress. -/
def State.ticksLeft (s : State) : Nat :=
  let m := s.params.maxCount.toNat + 1
  let afterSettle := 83 * m + 4
  let afterLow := s.params.settleTicks.toNat + afterSettle
  match s.phase.toNat with
  | 1 => (s.params.wakeHighTicks.toNat - s.cnt.toNat) + s.params.wakeLowTicks.toNat + 1 + afterLow
  | 2 => (s.params.wakeLowTicks.toNat - s.cnt.toNat) + 1 + afterLow
  | 3 => 1 + afterLow
  | 4 => (s.params.settleTicks.toNat - s.cnt.toNat) + afterSettle
  | 5 => (m - s.cnt.toNat) + 82 * m + 4
  | 6 => (m - (s.pdl.toList.getD s.idx.toNat 0#16).toNat) + m + 2 * (40 - s.idx.toNat) * m + 4
  | 7 => (m - (s.pdh.toList.getD s.idx.toNat 0#16).toNat) + 2 * (40 - s.idx.toNat) * m + 4
  | 8 => 4
  | 9 => 3
  | 10 => 2
  | 11 => 1
  | _ => 0

/-- The bound of R244 on a READ run: `W + L + 1 + S + 83 (M + 1) + 4` ticks. -/
def State.readBound (s : State) : Nat :=
  s.params.wakeHighTicks.toNat + s.params.wakeLowTicks.toNat + 1 + s.params.settleTicks.toNat
    + 83 * (s.params.maxCount.toNat + 1) + 4

/-- The instructions that write `CMD` with `v`: every CMD32 row, and every HT41 write to word index 0x00 (R63, R90, R91). -/
def WritesCmd (v : Word) (i : Instr) : Prop :=
  i = .illegal v ∨ i = .busyReject v ∨ i = .wr 0x00#8 v ∨
    ((i = .read ∨ i = .wrCmdRead) ∧ v = 1#32) ∨ ((i = .decode ∨ i = .wrCmdDecode) ∧ v = 2#32)

/-- The instructions that write a `PDL` or `PDH` entry with `v`: the two window rows, and WR in the window (R63, R92). -/
def WritesDuration (v : Word) (i : Instr) : Prop :=
  ∃ k : Pair, i = .wrPdl k v ∨ i = .wrPdh k v ∨ i = .wr (pdlIndex k) v ∨ i = .wr (pdhIndex k) v

/-- `k` steps, stopping at the first fault or refusal. -/
def runSteps : Nat → State → Result
  | 0, s => .next s
  | k + 1, s =>
    match step s with
    | .next t => runSteps k t
    | .fault r => .fault r
    | .refused r => .refused r

/-- The events of ticks without reset with the given samples. -/
def ticksOf (samples : List Bool) : List Event := samples.map (Event.tick false)

/-- The samples of a Low run of `l` and a High run of `h`, less the Low sample that a previous tick consumed, and with
the Low sample that ends the High run (R143, R250): `l + h` ticks for lengths of at least 1. -/
def pairSamples (l h : Nat) : List Bool :=
  List.replicate (l - 1) false ++ [true] ++ List.replicate (h - 1) true ++ [false]

/-- The samples of the runs of pairs 0 to 40 in order (R143, R250). -/
def frameSamples (l h : Pair → Nat) : List Bool :=
  (List.finRange 41).flatMap fun i => pairSamples (l i) (h i)

end Sys2Proof.Machine
end

