-- ==== Sys2Proof/Certificates/Slice0/Obligations.lean ====
section
/-! DEFINITION. The statements for the provers. An equation `exec i s = .next { s with … }` is the result of the
instruction and its frame at once: every field that is not named keeps its value. -/

open Sys2Proof Sys2Proof.Machine

/-! ### Encoding -/

/-- Every well-formed instruction decodes back from its word, with every operand (R21, R80, R90, R91).
The value of `BUSY` is the one R110 asks for; that the decoder takes `BUSY` is the model's reading (log entry 13), and so
is that RD, WR and ILLEGAL are well formed only on words of no narrower row (log entry 14). -/
def Obligations.DecodeOfEncodeIsTheInstruction : Prop :=
  ∀ (i : Instr) (busy : Bool), i.wf = true → i.fitsBusy busy = true → decode busy (encode i) = .ok i

/-- Every word that decodes is the word of the instruction it decodes to, which is well formed (R90, R91, R95):
no bit of a word is dropped, and no word has two meanings. Two clauses are the model's reading of the opcode table: that
the instruction is well formed, so the narrower row wins over RD, WR and ILLEGAL (DEDUCED, log entry 14), and that `BUSY`
fits it, since the decoder takes `BUSY` (DEDUCED, log entry 13). -/
def Obligations.EncodeOfDecodeIsTheWord : Prop :=
  ∀ (busy : Bool) (w : TableWord) (i : Instr), decode busy w = .ok i →
    encode i = w ∧ i.wf = true ∧ i.fitsBusy busy = true

/-- The one word that is no instruction is an HT41 read with a data field that is not 0 (R94 (c)); in terms of the
number of R91, a word below 2^40 that is no multiple of 2^32. -/
def Obligations.OnlyAReadWithDataIsRejected : Prop :=
  ∀ (busy : Bool) (w : TableWord),
    let readWithData := ∃ x : BitVec 41, w = .ht41 x ∧ x.toNat < 2 ^ 40 ∧ x.toNat % 2 ^ 32 ≠ 0
    (readWithData → decode busy w = .error .readDataNotZero) ∧ (¬ readWithData → ∃ i, decode busy w = .ok i)

/-- Words the spec writes out (R90, R91; vectors H2, H5, H7, H8, H9, the window of R64, the phase codes of R21)
decode to the instructions they stand for. That a number of 48 bits is read as HT41 and one of 8 bits as PH4 is the model's
choice (DESIGN CHOICE, log entry 15; R95 gives HT41 41 bits), and that CMD32 words are read with `BUSY = 0` is its reading
(DEDUCED, log entry 13). -/
def Obligations.SpecWordsDecodeAsWritten : Prop :=
  decodeTableWord 32 0x00000001 = some .read ∧ decodeTableWord 32 0x00000002 = some .decode ∧
  decodeTableWord 32 0x80000001 = some (.illegal 0x80000001#32) ∧ decodeTableWord 32 0 = some (.illegal 0#32) ∧
  decodeTableWord 48 0x10000000001 = some .wrCmdRead ∧ decodeTableWord 48 0x10000000002 = some .wrCmdDecode ∧
  decodeTableWord 48 0x00000000000 = some .rdCmd ∧ decodeTableWord 48 0x00100000000 = some .rdStatus ∧
  decodeTableWord 48 0x00800000000 = some .rdTempF ∧
  decodeTableWord 48 0x14012345678 = some (.wrPdl 0 0x12345678#32) ∧
  decodeTableWord 48 0x191FFFFFFFF = some (.wrPdh 40 0xFFFFFFFF#32) ∧
  decodeTableWord 48 0x04E00000000 = some (.rdPdl 7) ∧ decodeTableWord 48 0x04F00000000 = some (.rdPdh 7) ∧
  decodeTableWord 48 0x19200000005 = some (.wr 0x92#8 5#32) ∧ decodeTableWord 48 0x09200000000 = some (.rd 0x92#8) ∧
  decodeTableWord 48 0x00100000001 = none ∧
  decodeTableWord 8 0x0 = some .idle ∧ decodeTableWord 8 0x5 = some .readyWait ∧
  decodeTableWord 8 0x9 = some .bitdec ∧ decodeTableWord 8 0xB = some .calib ∧ decodeTableWord 8 0xC = some .phase12

/-! ### The step -/

/-- A tick without reset executes the phase that `PHASE` names, with the tick's sample on the line (R6, R21); with no
event in store the tick's sample is a free value (log entry 3). -/
def Obligations.StepOnATickExecutesThePhase : Prop :=
  ∀ s : State,
    (∀ (sample : Bool) (rest : List Event), s.script = .tick false sample :: rest →
      ∃ i, decode s.busy (.ph4 s.phase) = .ok i ∧
        step s = exec i { s with script := rest, lineIn := sample }) ∧
    (s.script = [] →
      ∃ i, decode s.busy (.ph4 s.phase) = .ok i ∧
        step s = exec i { s with draws := s.draws + 1, lineIn := Config.freeSample s.draws })

/-- A host access executes the instruction its word decodes to, and a word that is no transaction is refused
(R6, R91, R94 (c), R110). The third clause, on a CMD32 value as an event of its own, is the model's reading (DEDUCED, log
entry 12). -/
def Obligations.StepOnAHostAccessExecutesTheDecodedWord : Prop :=
  ∀ (s : State) (rest : List Event),
    (∀ (w : BitVec 41) (i : Instr), s.script = .transaction w :: rest → decode s.busy (.ht41 w) = .ok i →
      step s = exec i { s with script := rest }) ∧
    (∀ (w : BitVec 41) (e : DecodeError), s.script = .transaction w :: rest → decode s.busy (.ht41 w) = .error e →
      step s = .refused .readDataNotZero) ∧
    (∀ (opc : Word) (i : Instr), s.script = .command opc :: rest → decode s.busy (.cmd32 opc) = .ok i →
      step s = exec i { s with script := rest })

/-- A table word placed where the step fetches is the instruction the very next step runs: the state is as it was, but
for `PHASE` when the word is a phase code. How a word is placed and which format a number has are the model's choice (log
entries 2, 15, 17), and that a CMD32 word is read with `BUSY = 0` is its reading (log entry 13). -/
def Obligations.PlacedWordIsRunByTheNextStep : Prop :=
  ∀ (s : State) (nbits w : Nat) (i : Instr), s.busy = false → decodeTableWord nbits w = some i →
    step (s.withFetchWord nbits w) = exec i { s with phase := (s.withFetchWord nbits w).phase }

/-- A tick with `rst = 1` gives every element of R20 its reset value, whatever the state is, and executes no phase; the
parameters stay (R230, R44). The rest is the model's choice, no rule of the spec: the host's read data stay (DESIGN CHOICE,
log entry 5), `lineIn` takes the reset tick's sample (DESIGN CHOICE, log entry 6), the count of draws stays (DESIGN CHOICE,
log entry 7), and the events to come stay (DESIGN CHOICE, log entry 1). -/
def Obligations.ResetTickWritesEveryElement : Prop :=
  ∀ (s : State) (sample : Bool) (rest : List Event), s.script = .tick true sample :: rest →
    step s = .next { State.reset with
      params := s.params, lineIn := sample, hostData := s.hostData, script := rest, draws := s.draws }

/-- The reset state, element by element (R44). -/
def Obligations.ResetStateIsAllZero : Prop :=
  State.reset.phase = 0#4 ∧ State.reset.idx = 0#6 ∧ State.reset.cnt = 0#32 ∧
  (∀ i : Pair, State.reset.pdl[i] = 0#16 ∧ State.reset.pdh[i] = 0#16) ∧
  State.reset.thresh = 0#16 ∧ State.reset.frame = 0#40 ∧ State.reset.hum = 0#12 ∧ State.reset.tmag = 0#12 ∧
  State.reset.tempC = 0#32 ∧ State.reset.tempF = 0#32 ∧ State.reset.valid = false ∧
  State.reset.err = 0#2 ∧ State.reset.esite = 0#4 ∧ State.reset.busy = false ∧ State.reset.done = false ∧
  State.reset.illcmd = false ∧ State.reset.busyrej = false ∧ State.reset.tneg = false ∧ State.reset.hfb = false ∧
  State.reset.tfb = false ∧ State.reset.lineOe = false ∧ State.reset.lineOut = false ∧ State.reset.prio = false ∧
  exec .rdStatus State.reset = .next { State.reset with hostData := 0x00000000#32 }

/-! ### Commands -/

/-- An accepted READ, spelled as a CMD32 value or as a transaction: the result and the frame (R111, R115). -/
def Obligations.AcceptedReadStartsTheWakeSequence : Prop :=
  ∀ (s : State) (i : Instr), i ∈ [Instr.read, .wrCmdRead] → s.busy = false →
    exec i s = .next { s with
      valid := false, err := 0#2, esite := 0#4, illcmd := false, busyrej := false
      tneg := false, hfb := false, tfb := false, thresh := 0#16, frame := 0#40
      hum := 0#12, tmag := 0#12, tempC := 0#32, tempF := 0#32, idx := 0#6, cnt := 0#32
      busy := true, done := false
      pdl := Vector.replicate 41 0#16, pdh := Vector.replicate 41 0#16
      lineOe := true, lineOut := true, phase := 1#4 }

/-- An accepted DECODE, spelled as a CMD32 value or as a transaction: the result and the frame; the durations, the line
registers and `PRIO` stay (R112, R115). -/
def Obligations.AcceptedDecodeStartsAtThresh : Prop :=
  ∀ (s : State) (i : Instr), i ∈ [Instr.decode, .wrCmdDecode] → s.busy = false →
    exec i s = .next { s with
      valid := false, err := 0#2, esite := 0#4, illcmd := false, busyrej := false
      tneg := false, hfb := false, tfb := false, thresh := 0#16, frame := 0#40
      hum := 0#12, tmag := 0#12, tempC := 0#32, tempF := 0#32, idx := 0#6, cnt := 0#32
      busy := true, done := false, phase := 8#4 }

/-- A value other than 1 and 2 written to `CMD` while idle sets `ILLCMD` and does nothing else, in both spellings (R113). -/
def Obligations.IllegalCommandSetsOnlyIllcmd : Prop :=
  ∀ (s : State) (opc : Word), s.busy = false → opc ≠ 1#32 → opc ≠ 2#32 →
    exec (.illegal opc) s = .next { s with illcmd := true } ∧ exec (.wr 0x00#8 opc) s = .next { s with illcmd := true }

/-- Every write to `CMD`, of any value and in any spelling, and every write to a duration entry does `BUSYREJ <- 1` and
nothing else while a run is in progress (R63, R114, R242). -/
def Obligations.WritesWhileBusyAreDropped : Prop :=
  ∀ (s : State) (i : Pair) (v : Word), s.busy = true →
    ∀ j ∈ [Instr.busyReject v, .read, .decode, .illegal v, .wr 0x00#8 v, .wrCmdRead, .wrCmdDecode, .wrPdl i v, .wrPdh i v],
      exec j s = .next { s with busyrej := true }

/-- The two spellings of a write to `CMD` are one event: the CMD32 value, and the HT41 word `WR 0x00, v` (R90, R91, R110).
That a CMD32 value is an event of its own is the model's reading (log entry 12). -/
def Obligations.BothSpellingsOfACommandAgree : Prop :=
  ∀ (s : State) (v : Word) (rest : List Event),
    step { s with script := .command v :: rest } = step { s with script := .transaction (ht41 true 0x00#8 v) :: rest }

/-! ### Host reads and writes -/

/-- `STATUS`, bit by bit (R38): the read is the same at any time and changes nothing of the block, and a write is ignored. -/
def Obligations.StatusShowsEveryFieldInItsPlace : Prop :=
  ∀ s : State, ∃ v : Word, exec .rdStatus s = .next { s with hostData := v } ∧
    v.getLsbD 0 = s.busy ∧ v.getLsbD 1 = s.done ∧ v.getLsbD 2 = s.valid ∧ v.extractLsb' 3 2 = s.err ∧
    v.getLsbD 5 = s.illcmd ∧ v.getLsbD 6 = s.busyrej ∧ v.getLsbD 7 = s.prio ∧ v.getLsbD 8 = s.lineOe ∧
    v.getLsbD 9 = s.lineOut ∧ v.getLsbD 10 = s.tneg ∧ v.getLsbD 11 = s.hfb ∧ v.getLsbD 12 = s.tfb ∧
    v.extractLsb' 13 3 = 0#3 ∧ v.extractLsb' 16 4 = s.phase ∧ v.extractLsb' 20 6 = s.idx ∧
    v.extractLsb' 26 4 = s.esite ∧ v.extractLsb' 30 2 = 0#2 ∧
    ∀ w : Word, exec (.wr 0x01#8 w) s = .next s

/-- The reads that are defined at all times return the register zero-extended and change nothing of the block
(R39, R62, R64, R65): the reading registers, `CMD` and the reserved indices. -/
def Obligations.ReadsDefinedAtAllTimes : Prop :=
  ∀ s : State,
    exec .rdHum s = .next { s with hostData := BitVec.ofNat 32 s.hum.toNat } ∧
    exec .rdTmag s = .next { s with hostData := BitVec.ofNat 32 s.tmag.toNat } ∧
    exec .rdTempC s = .next { s with hostData := s.tempC } ∧
    exec .rdTempF s = .next { s with hostData := s.tempF } ∧
    exec .rdCmd s = .next { s with hostData := 0#32 } ∧
    ∀ idx : Index, (Instr.rd idx).wf = true → exec (.rd idx) s = .next { s with hostData := 0#32 }

/-- While no run is in progress the threshold, the frame and the duration entries read as the registers stand
(R62, R64, R92). -/
def Obligations.ReadsOfDecodeDataWhileIdle : Prop :=
  ∀ (s : State) (i : Pair), s.busy = false →
    exec .rdThresh s = .next { s with hostData := BitVec.ofNat 32 s.thresh.toNat } ∧
    exec .rdFrameHi s = .next { s with hostData := BitVec.ofNat 32 (s.frame.toNat / 256) } ∧
    exec .rdFrameLo s = .next { s with hostData := BitVec.ofNat 32 (s.frame.toNat % 256) } ∧
    exec (.rdPdl i) s = .next { s with hostData := BitVec.ofNat 32 s.pdl[i].toNat } ∧
    exec (.rdPdh i) s = .next { s with hostData := BitVec.ofNat 32 s.pdh[i].toNat }

/-- While a run is in progress the same five reads return a free value, a fresh one at each read, and change nothing of
the block (R65). The form of the free value is the model's (log entry 4). -/
def Obligations.ReadsOfDecodeDataWhileBusyAreFree : Prop :=
  ∀ (s : State) (i : Pair), s.busy = true →
    ∀ j ∈ [Instr.rdThresh, .rdFrameHi, .rdFrameLo, .rdPdl i, .rdPdh i],
      exec j s = .next { s with hostData := Config.freeRead s.draws, draws := s.draws + 1 }

/-- Throughout a run the reading registers read 0 (R65, R243). -/
def Obligations.ReadingRegistersReadZeroDuringARun : Prop :=
  ∀ s : State, s.Inv → s.busy = true → ∀ j ∈ [Instr.rdHum, .rdTmag, .rdTempC, .rdTempF],
    exec j s = .next { s with hostData := 0#32 }

/-- A host write to a duration entry while no run is in progress stores the low 16 bits of the value in that entry, and
changes nothing else (R63, R92). -/
def Obligations.DurationWritesStoreSixteenBits : Prop :=
  ∀ (s : State) (i : Pair) (v : Word), s.busy = false →
    (∃ t, exec (.wrPdl i v) s = .next t ∧ t = { s with pdl := t.pdl } ∧ t.pdl[i].toNat = v.toNat % 65536 ∧
      ∀ j : Pair, j ≠ i → t.pdl[j] = s.pdl[j]) ∧
    (∃ t, exec (.wrPdh i v) s = .next t ∧ t = { s with pdh := t.pdh } ∧ t.pdh[i].toNat = v.toNat % 65536 ∧
      ∀ j : Pair, j ≠ i → t.pdh[j] = s.pdh[j])

/-- A host write to a read-only register or to a reserved index is ignored, also while a run is in progress (R63, R94 (b)). -/
def Obligations.WritesElsewhereAreIgnored : Prop :=
  ∀ (s : State) (idx : Index) (v : Word), idx ≠ 0x00#8 → (idx.toNat < 0x40 ∨ 0x91 < idx.toNat) →
    exec (.wr idx v) s = .next s

/-- What was written to a duration entry, low or high, is what a read of that entry returns, zero-extended, and every
other entry of both files reads as before (R63, R92). -/
def Obligations.DurationReadsReturnTheLastWrite : Prop :=
  ∀ (s t : State) (i j : Pair) (v : Word), s.busy = false →
    (exec (.wrPdl i v) s = .next t →
      exec (.rdPdl i) t = .next { t with hostData := BitVec.ofNat 32 (v.toNat % 65536) } ∧
      (i ≠ j → exec (.rdPdl j) t = .next { t with hostData := BitVec.ofNat 32 s.pdl[j].toNat }) ∧
      exec (.rdPdh j) t = .next { t with hostData := BitVec.ofNat 32 s.pdh[j].toNat }) ∧
    (exec (.wrPdh i v) s = .next t →
      exec (.rdPdh i) t = .next { t with hostData := BitVec.ofNat 32 (v.toNat % 65536) } ∧
      (i ≠ j → exec (.rdPdh j) t = .next { t with hostData := BitVec.ofNat 32 s.pdh[j].toNat }) ∧
      exec (.rdPdl j) t = .next { t with hostData := BitVec.ofNat 32 s.pdl[j].toNat })

/-! ### The phases -/

/-- IDLE changes no state (R130). -/
def Obligations.IdleChangesNothing : Prop := ∀ s : State, exec .idle s = .next s

/-- WAKE_HIGH ends, driving the line low, on the tick where `CNT + 1 >= W`, and counts otherwise (R131).
That `CNT + 1` is exact,
also at `CNT = 2^32 - 1`, which no run reaches, is the model's reading (DEDUCED, log entry 11). -/
def Obligations.WakeHighHoldsThenDrivesLow : Prop :=
  ∀ s : State,
    (s.params.wakeHighTicks.toNat ≤ s.cnt.toNat + 1 →
      exec .wakeHigh s = .next { s with lineOut := false, cnt := 0#32, phase := 2#4 }) ∧
    (s.cnt.toNat + 1 < s.params.wakeHighTicks.toNat →
      ∃ t, exec .wakeHigh s = .next t ∧ t = { s with cnt := t.cnt } ∧ t.cnt.toNat = s.cnt.toNat + 1)

/-- WAKE_LOW ends on the tick where `CNT + 1 >= L`, and counts otherwise (R132).
That `CNT + 1` is exact,
also at `CNT = 2^32 - 1`, which no run reaches, is the model's reading (DEDUCED, log entry 11). -/
def Obligations.WakeLowHolds : Prop :=
  ∀ s : State,
    (s.params.wakeLowTicks.toNat ≤ s.cnt.toNat + 1 → exec .wakeLow s = .next { s with cnt := 0#32, phase := 3#4 }) ∧
    (s.cnt.toNat + 1 < s.params.wakeLowTicks.toNat →
      ∃ t, exec .wakeLow s = .next t ∧ t = { s with cnt := t.cnt } ∧ t.cnt.toNat = s.cnt.toNat + 1)

/-- HANDOVER raises the priority request and releases the line in one tick (R133). -/
def Obligations.HandoverRaisesPriorityAndReleasesTheLine : Prop :=
  ∀ s : State, exec .handover s = .next { s with prio := true, lineOe := false, cnt := 0#32, phase := 4#4 }

/-- SETTLE ends on the tick where `CNT + 1 >= S`, and counts otherwise (R134).
That `CNT + 1` is exact,
also at `CNT = 2^32 - 1`, which no run reaches, is the model's reading (DEDUCED, log entry 11). -/
def Obligations.SettleDelays : Prop :=
  ∀ s : State,
    (s.params.settleTicks.toNat ≤ s.cnt.toNat + 1 → exec .settle s = .next { s with cnt := 0#32, phase := 5#4 }) ∧
    (s.cnt.toNat + 1 < s.params.settleTicks.toNat →
      ∃ t, exec .settle s = .next t ∧ t = { s with cnt := t.cnt } ∧ t.cnt.toNat = s.cnt.toNat + 1)

/-- READY_WAIT ends on a Low sample, times out on a High sample at the bound, and counts otherwise (R140, R201). -/
def Obligations.ReadyWaitEndsCountsOrTimesOut : Prop :=
  ∀ s : State,
    (s.lineIn = false → exec .readyWait s = .next { s with idx := 0#6, phase := 6#4 }) ∧
    (s.lineIn = true → s.cnt.toNat = s.params.maxCount.toNat →
      exec .readyWait s = .next { s with
        err := 1#2, esite := 5#4, prio := false, phase := 0#4, busy := false, done := true }) ∧
    (s.lineIn = true → s.cnt.toNat < s.params.maxCount.toNat →
      ∃ t, exec .readyWait s = .next t ∧ t = { s with cnt := t.cnt } ∧ t.cnt.toNat = s.cnt.toNat + 1)

/-- CAP_LOW ends on a High sample, times out on a Low sample at the bound, and otherwise counts in the entry of pair `IDX`
and in no other (R141, R201). -/
def Obligations.CapLowEndsCountsOrTimesOut : Prop :=
  ∀ (s : State) (i : Pair), s.idx.toNat = i.val →
    (s.lineIn = true → exec .capLow s = .next { s with phase := 7#4 }) ∧
    (s.lineIn = false → s.pdl[i] = s.params.maxCount →
      exec .capLow s = .next { s with
        err := 1#2, esite := 6#4, prio := false, phase := 0#4, busy := false, done := true }) ∧
    (s.lineIn = false → s.pdl[i].toNat < s.params.maxCount.toNat →
      ∃ t, exec .capLow s = .next t ∧ t = { s with pdl := t.pdl } ∧ t.pdl[i].toNat = s.pdl[i].toNat + 1 ∧
        ∀ j : Pair, j ≠ i → t.pdl[j] = s.pdl[j])

/-- CAP_HIGH goes to the next pair on a Low sample, or finishes capture and drops the priority request after pair 40;
times out on a High sample at the bound; otherwise counts in the entry of pair `IDX` and in no other (R142, R201). -/
def Obligations.CapHighEndsCountsOrTimesOut : Prop :=
  ∀ (s : State) (i : Pair), s.idx.toNat = i.val →
    (s.lineIn = false → i.val = 40 → exec .capHigh s = .next { s with prio := false, phase := 8#4 }) ∧
    (s.lineIn = false → i.val < 40 →
      ∃ t, exec .capHigh s = .next t ∧ t = { s with idx := t.idx, phase := 6#4 } ∧ t.idx.toNat = i.val + 1) ∧
    (s.lineIn = true → s.pdh[i] = s.params.maxCount →
      exec .capHigh s = .next { s with
        err := 1#2, esite := 7#4, prio := false, phase := 0#4, busy := false, done := true }) ∧
    (s.lineIn = true → s.pdh[i].toNat < s.params.maxCount.toNat →
      ∃ t, exec .capHigh s = .next t ∧ t = { s with pdh := t.pdh } ∧ t.pdh[i].toNat = s.pdh[i].toNat + 1 ∧
        ∀ j : Pair, j ≠ i → t.pdh[j] = s.pdh[j])

/-- THRESH writes the floor of the mean of the 40 payload lows, entry 0 left out, with nothing lost to the register's
width, and nothing else but `PHASE` (R160, R162). -/
def Obligations.ThreshIsTheFloorOfTheMean : Prop :=
  ∀ s : State, ∃ t, exec .thresh s = .next t ∧ t = { s with thresh := t.thresh, phase := 9#4 } ∧
    t.thresh.toNat = (∑ i : Fin 40, s.pdl[i.succ].toNat) / 40

/-- BITDEC writes the 40 comparator bits, each in its place of the frame, and nothing else but `PHASE`: for pair
`8 k + j + 1` the bit is bit `7 - j` of `byte(k)` (R82, R161). -/
def Obligations.BitdecComparesEveryPayloadHigh : Prop :=
  ∀ s : State, ∃ t, exec .bitdec s = .next t ∧ t = { s with frame := t.frame, phase := 10#4 } ∧
    (∀ i : Pair, 0 < i.val → (t.frame.getLsbD (40 - i.val) = true ↔ s.thresh.toNat ≤ s.pdh[i].toNat)) ∧
    ∀ (k : Fin 5) (j : Fin 8) (i : Pair), i.val = 8 * k.val + j.val + 1 →
      ((frameByte t.frame k).getLsbD (7 - j.val) = true ↔ s.thresh.toNat ≤ s.pdh[i].toNat)

/-- CHECK goes on to CALIB exactly when the sum of the first four bytes modulo 256 is the fifth, and otherwise raises
`ChecksumMismatch` (R170, R171, R202). The bytes are digits of the frame's number in base 256 (R25). -/
def Obligations.CheckJudgesTheChecksum : Prop :=
  ∀ s : State,
    let f := s.frame.toNat
    let sum := f / 2 ^ 32 + f / 2 ^ 24 % 256 + f / 2 ^ 16 % 256 + f / 2 ^ 8 % 256
    (sum % 256 = f % 256 → exec .check s = .next { s with phase := 11#4 }) ∧
    (sum % 256 ≠ f % 256 → exec .check s = .next { s with err := 2#2, phase := 0#4, busy := false, done := true })

/-- CALIB's result and frame, as integers: the two fallbacks, the sign, Celsius in tenths and Fahrenheit in hundredths,
all exact at the registers' widths (R180, R181, R182). -/
def Obligations.CalibDerivesTheReading : Prop :=
  ∀ s : State,
    let b : Fin 5 → Nat := fun k => (frameByte s.frame k).toNat
    let h16 := b 0 * 256 + b 1
    let t15 := b 2 % 128 * 256 + b 3
    let neg : Prop := 128 ≤ b 2
    ∃ t, exec .calib s = .next t ∧
      t = { s with
        hum := t.hum, hfb := t.hfb, tmag := t.tmag, tfb := t.tfb, tneg := t.tneg, tempC := t.tempC, tempF := t.tempF
        valid := true, phase := 0#4, busy := false, done := true } ∧
      (1000 < h16 → t.hum.toNat = b 0 * 10 ∧ t.hfb = true) ∧ (h16 ≤ 1000 → t.hum.toNat = h16 ∧ t.hfb = false) ∧
      (1250 < t15 → t.tmag.toNat = b 2 * 10 ∧ t.tfb = true) ∧ (t15 ≤ 1250 → t.tmag.toNat = t15 ∧ t.tfb = false) ∧
      (t.tneg = true ↔ neg) ∧
      (neg → t.tempC.toInt = -(t.tmag.toNat : Int)) ∧ (¬ neg → t.tempC.toInt = (t.tmag.toNat : Int)) ∧
      t.tempF.toInt = 18 * t.tempC.toInt + 3200

/-- The ranges the reading reaches, with and without the fallbacks and by sign (R183). -/
def Obligations.ReadingStaysInItsRanges : Prop :=
  ∀ s t : State, exec .calib s = .next t →
    t.hum.toNat ≤ 2550 ∧ (t.hfb = false → t.hum.toNat ≤ 1000) ∧
    (t.hfb = true → 30 ≤ t.hum.toNat ∧ t.hum.toNat % 10 = 0) ∧
    t.tmag.toNat ≤ 2550 ∧ (t.tfb = false → t.tmag.toNat ≤ 1250) ∧
    (t.tfb = true → 40 ≤ t.tmag.toNat ∧ t.tmag.toNat % 10 = 0) ∧
    (t.tneg = false → 0 ≤ t.tempC.toInt ∧ t.tempC.toInt ≤ 1270 ∧ 3200 ≤ t.tempF.toInt ∧ t.tempF.toInt ≤ 26060) ∧
    (t.tneg = true → -2550 ≤ t.tempC.toInt ∧ t.tempC.toInt ≤ 0 ∧ -42700 ≤ t.tempF.toInt ∧ t.tempF.toInt ≤ 3200) ∧
    (t.tneg = true → t.tfb = true → t.tempC.toInt ≤ -1320 ∧ t.tempF.toInt ≤ -20560) ∧
    (t.tneg = true → t.tfb = false → -1250 ≤ t.tempC.toInt ∧ -19300 ≤ t.tempF.toInt) ∧
    (t.tneg = false → t.tfb = true → 40 ≤ t.tempC.toInt ∧ 3920 ≤ t.tempF.toInt) ∧
    (t.tneg = false → t.tfb = false → t.tempC.toInt ≤ 1250 ∧ t.tempF.toInt ≤ 25700)

/-- The four phase codes without a meaning stop the machine under their own name (R21, R232); that the machine is stuck
there is the model's choice among what the spec allows (log entry 9). -/
def Obligations.PhaseCodesWithoutMeaningStop : Prop :=
  ∀ s : State, ∀ i ∈ [Instr.phase12, .phase13, .phase14, .phase15], exec i s = .fault .phaseWithoutMeaning

/-! ### Invariants -/

/-- The invariant holds at reset. -/
def Obligations.ResetStateMeetsTheInvariant : Prop := State.reset.Inv

/-- Every step keeps the invariant: ticks, reset ticks and host accesses alike (R43). -/
def Obligations.EveryStepKeepsTheInvariant : Prop := ∀ s t : State, s.Inv → step s = .next t → t.Inv

/-- Rule R43: its clauses hold in every state reachable from reset, for every legal choice of the parameters and every
sequence of ticks and host accesses. -/
def Obligations.ReachableStatesMeetTheDocumentedInvariants : Prop :=
  ∀ (p : Params) (events : List Event) (n : Nat) (t : State), p.Legal →
    runSteps n { State.reset with params := p, script := events } = .next t → t.Documented

/-- No state that meets the invariant faults, and its only refusal is that of a word that is no transaction. -/
def Obligations.GoodStatesNeverFault : Prop :=
  ∀ s : State, s.Inv →
    (∃ t, step s = .next t) ∨
    (step s = .refused .readDataNotZero ∧
      ∃ (w : BitVec 41) (rest : List Event), s.script = .transaction w :: rest ∧
        decode s.busy (.ht41 w) = .error .readDataNotZero)

/-- The transition table of R42: in a good state every tick has a next state, and `PHASE` goes where the table says. -/
def Obligations.TicksFollowTheTransitionTable : Prop :=
  ∀ s : State, s.Inv → ∃ t, exec (decodePhase s.phase) s = .next t ∧
    let m := s.params.maxCount.toNat
    let pair : Pair := Fin.ofNat 41 s.idx.toNat
    let timeout (site : Nat) : Prop := t.phase.toNat = 0 ∧ t.err = 1#2 ∧ t.esite.toNat = site
    match s.phase.toNat with
    | 0 => t.phase.toNat = 0
    | 1 => t.phase.toNat = if s.cnt.toNat + 1 < s.params.wakeHighTicks.toNat then 1 else 2
    | 2 => t.phase.toNat = if s.cnt.toNat + 1 < s.params.wakeLowTicks.toNat then 2 else 3
    | 3 => t.phase.toNat = 4
    | 4 => t.phase.toNat = if s.cnt.toNat + 1 < s.params.settleTicks.toNat then 4 else 5
    | 5 => (s.lineIn = false → t.phase.toNat = 6) ∧ (s.lineIn = true → s.cnt.toNat < m → t.phase.toNat = 5) ∧
        (s.lineIn = true → s.cnt.toNat = m → timeout 5)
    | 6 => (s.lineIn = true → t.phase.toNat = 7) ∧ (s.lineIn = false → s.pdl[pair].toNat < m → t.phase.toNat = 6) ∧
        (s.lineIn = false → s.pdl[pair].toNat = m → timeout 6)
    | 7 => (s.lineIn = false → s.idx.toNat < 40 → t.phase.toNat = 6) ∧
        (s.lineIn = false → s.idx.toNat = 40 → t.phase.toNat = 8) ∧
        (s.lineIn = true → s.pdh[pair].toNat < m → t.phase.toNat = 7) ∧
        (s.lineIn = true → s.pdh[pair].toNat = m → timeout 7)
    | 8 => t.phase.toNat = 9
    | 9 => t.phase.toNat = 10
    | 10 => (ChecksumOk s.frame → t.phase.toNat = 11) ∧ (¬ ChecksumOk s.frame → t.phase.toNat = 0 ∧ t.err = 2#2)
    | 11 => t.phase.toNat = 0
    | _ => False

/-- `raise Timeout(site)` in a good state: the six writes and nothing else, in the tick of the phase that raises it; so
there is no reading, no threshold and no frame, the line stays released, and the count that reached the bound stays in its
place (R200, R201). -/
def Obligations.TimeoutLeavesNoReading : Prop :=
  ∀ s t : State, s.Inv → s.busy = true → exec (decodePhase s.phase) s = .next t → t.err = 1#2 →
    t = { s with err := 1#2, esite := s.phase, prio := false, phase := 0#4, busy := false, done := true } ∧
    t.valid = false ∧ t.ReadingCleared ∧ t.thresh = 0#16 ∧ t.frame = 0#40 ∧ t.lineOe = false ∧ t.lineOut = false ∧
    (t.esite = 5#4 ∨ t.esite = 6#4 ∨ t.esite = 7#4) ∧
    (t.esite = 5#4 → t.idx = 0#6 ∧ t.cnt.toNat = t.params.maxCount.toNat) ∧
    (t.esite = 6#4 → ∃ i : Pair, i.val = t.idx.toNat ∧ t.pdl[i] = t.params.maxCount) ∧
    (t.esite = 7#4 → ∃ i : Pair, i.val = t.idx.toNat ∧ t.pdh[i] = t.params.maxCount)

/-- In every reachable state with no run in progress the line is released and the priority request is down
(R37, R235). -/
def Obligations.NoRunLeavesTheLineDrivenOrThePriorityUp : Prop :=
  ∀ (p : Params) (events : List Event) (n : Nat) (t : State), p.Legal →
    runSteps n { State.reset with params := p, script := events } = .next t → t.busy = false →
    t.lineOe = false ∧ t.lineOut = false ∧ t.prio = false

/-! ### Who writes what -/

/-- Only an accepted READ or DECODE leaves IDLE: any other event leaves an idle block idle (R21, R42). That a CMD32 value
is an event of its own is the model's reading (log entry 12). -/
def Obligations.OnlyAnAcceptedCommandLeavesIdle : Prop :=
  ∀ (s t : State) (e : Event), s.Inv → s.busy = false → onEvent e s = .next t → t.busy = true →
    ∃ v : Word, (e = .command v ∨ e = .transaction (ht41 true 0x00#8 v)) ∧
      (v = 1#32 ∧ t.phase = 1#4 ∨ v = 2#32 ∧ t.phase = 8#4)

/-- The line registers are written by an accepted READ, the last tick of WAKE_HIGH and HANDOVER, and by no other
instruction (R36). -/
def Obligations.LineRegisterWriters : Prop :=
  ∀ (i : Instr) (s t : State), exec i s = .next t → (t.lineOe, t.lineOut) ≠ (s.lineOe, s.lineOut) →
    (s.busy = false ∧ t.phase = 1#4 ∧ t.lineOe = true ∧ t.lineOut = true ∧ t.busy = true) ∨
    (i = .wakeHigh ∧ s.params.wakeHighTicks.toNat ≤ s.cnt.toNat + 1 ∧ t.lineOe = s.lineOe ∧ t.lineOut = false) ∨
    (i = .handover ∧ t.lineOe = false ∧ t.lineOut = s.lineOut)

/-- The priority request is raised by HANDOVER alone, and dropped only by the CAP_HIGH tick that completes pair 40 and by
a timeout (R37). -/
def Obligations.PriorityWriters : Prop :=
  ∀ (i : Instr) (s t : State), exec i s = .next t → t.prio ≠ s.prio →
    (i = .handover ∧ t.prio = true) ∨
    (t.prio = false ∧ i = .capHigh ∧ s.lineIn = false ∧ s.idx = 40#6) ∨
    (t.prio = false ∧ i ∈ [Instr.readyWait, .capLow, .capHigh] ∧ t.err = 1#2)

/-- `VALID` is raised by CALIB alone, and the reading is written by CALIB and by acceptance alone, which clears it
(R26, R27, R28, R29, R34). -/
def Obligations.ReadingWriters : Prop :=
  ∀ (i : Instr) (s t : State), exec i s = .next t →
    (t.valid, t.hum, t.tmag, t.tempC, t.tempF, t.tneg, t.hfb, t.tfb) ≠
      (s.valid, s.hum, s.tmag, s.tempC, s.tempF, s.tneg, s.hfb, s.tfb) →
    (i = .calib ∧ t.valid = true) ∨
    (s.busy = false ∧ t.busy = true ∧ t.valid = false ∧ t.ReadingCleared)

/-- A duration entry is written by acceptance of READ, by CAP_LOW and CAP_HIGH at pair `IDX`, and by a host write while no
run is in progress, and by nothing else (R23, R74). -/
def Obligations.DurationWriters : Prop :=
  ∀ (i : Instr) (s t : State) (j : Pair), exec i s = .next t →
    (t.pdl[j] ≠ s.pdl[j] →
      (s.busy = false ∧ t.busy = true ∧ t.phase = 1#4 ∧ t.pdl[j] = 0#16) ∨
      (i = .capLow ∧ s.lineIn = false ∧ s.idx.toNat = j.val ∧ t.pdl[j] = s.pdl[j] + 1#16) ∨
      (s.busy = false ∧ ∃ v : Word, (i = .wrPdl j v ∨ i = .wr (pdlIndex j) v) ∧ t.pdl[j].toNat = v.toNat % 65536)) ∧
    (t.pdh[j] ≠ s.pdh[j] →
      (s.busy = false ∧ t.busy = true ∧ t.phase = 1#4 ∧ t.pdh[j] = 0#16) ∨
      (i = .capHigh ∧ s.lineIn = true ∧ s.idx.toNat = j.val ∧ t.pdh[j] = s.pdh[j] + 1#16) ∨
      (s.busy = false ∧ ∃ v : Word, (i = .wrPdh j v ∨ i = .wr (pdhIndex j) v) ∧ t.pdh[j].toNat = v.toNat % 65536))

/-- The threshold and the frame are cleared by acceptance and written by THRESH and BITDEC alone (R24, R25). -/
def Obligations.ThresholdAndFrameWriters : Prop :=
  ∀ (i : Instr) (s t : State), exec i s = .next t →
    (t.thresh ≠ s.thresh → i = .thresh ∨ (s.busy = false ∧ t.busy = true ∧ t.thresh = 0#16)) ∧
    (t.frame ≠ s.frame → i = .bitdec ∨ (s.busy = false ∧ t.busy = true ∧ t.frame = 0#40))

/-- The sticky flags: `ILLCMD` is set only by a write to `CMD` of a value other than 1 and 2 while idle, `BUSYREJ` only by a
write to `CMD` or to a `PDL`/`PDH` entry while busy, each with no other effect, and both are cleared only by the acceptance
of a command, a write to `CMD` of 1 or 2 while idle (R33). -/
def Obligations.StickyFlagWriters : Prop :=
  ∀ (i : Instr) (s t : State), exec i s = .next t →
    (t.illcmd = true → s.illcmd = false →
      s.busy = false ∧ t = { s with illcmd := true } ∧ ∃ v : Word, v ≠ 1#32 ∧ v ≠ 2#32 ∧ WritesCmd v i) ∧
    (t.busyrej = true → s.busyrej = false →
      s.busy = true ∧ t = { s with busyrej := true } ∧ ∃ v : Word, WritesCmd v i ∨ WritesDuration v i) ∧
    ((t.illcmd = false ∧ s.illcmd = true) ∨ (t.busyrej = false ∧ s.busyrej = true) →
      s.busy = false ∧ t.busy = true ∧ t.illcmd = false ∧ t.busyrej = false ∧
        ∃ v : Word, (v = 1#32 ∨ v = 2#32) ∧ WritesCmd v i)

/-- No instruction touches the static parameters, the line's input level or the events to come, and only a host read
touches the read data (R9, R11, R62, R230). -/
def Obligations.InstructionsLeaveTheEnvironmentAlone : Prop :=
  ∀ (i : Instr) (s t : State), exec i s = .next t →
    t.params = s.params ∧ t.lineIn = s.lineIn ∧ t.script = s.script ∧
    (t.hostData ≠ s.hostData ∨ t.draws ≠ s.draws →
      ∃ idx : Index, encode i = .ht41 (ht41 false idx 0#32) ∧ t = { s with hostData := t.hostData, draws := t.draws })

/-! ### What the data depends on -/

/-- No tick outside READY_WAIT, CAP_LOW and CAP_HIGH looks at the sample, and in a good state none does while the block
drives the line (R6, R130 to R134, R249). -/
def Obligations.TheSampleMattersInCaptureOnly : Prop :=
  ∀ (s t : State) (a b : Bool),
    (¬ (5 ≤ s.phase.toNat ∧ s.phase.toNat ≤ 7) ∨ (s.Inv ∧ s.lineOe = true)) →
    onEvent (.tick false a) s = .next t → onEvent (.tick false b) s = .next { t with lineIn := b }

/-- The threshold depends on the payload lows alone and the frame on the payload lows and highs alone: whatever else two
states differ in, pair 0 included, THRESH and BITDEC give the same (R83, R163 (b), (d)). -/
def Obligations.FrameDependsOnThePayloadAlone : Prop :=
  ∀ s s' t t' u u' : State, (∀ i : Pair, 0 < i.val → s.pdl[i] = s'.pdl[i] ∧ s.pdh[i] = s'.pdh[i]) →
    exec .thresh s = .next t → exec .bitdec t = .next u → exec .thresh s' = .next t' → exec .bitdec t' = .next u' →
    u.thresh = u'.thresh ∧ u.frame = u'.frame

/-- Round trip (R84, R163 (a)): durations synthesised for a frame, with each payload high at least the floor of the mean
low for a 1 and below it for a 0, decode to that frame. -/
def Obligations.SynthesisedDurationsDecodeToTheFrame : Prop :=
  ∀ (s t u : State) (f : Frame),
    (∀ i : Pair, 0 < i.val →
      (f.getLsbD (40 - i.val) = true → (∑ k : Fin 40, s.pdl[k.succ].toNat) / 40 ≤ s.pdh[i].toNat) ∧
      (f.getLsbD (40 - i.val) = false → s.pdh[i].toNat < (∑ k : Fin 40, s.pdl[k.succ].toNat) / 40)) →
    exec .thresh s = .next t → exec .bitdec t = .next u → u.frame = f

/-- Monotonicity (R163 (c)): raising high durations and lowering low durations can only turn bits from 0 to 1. -/
def Obligations.DecodedBitsAreMonotone : Prop :=
  ∀ s s' t t' u u' : State,
    (∀ i : Pair, s'.pdl[i].toNat ≤ s.pdl[i].toNat ∧ s.pdh[i].toNat ≤ s'.pdh[i].toNat) →
    exec .thresh s = .next t → exec .bitdec t = .next u → exec .thresh s' = .next t' → exec .bitdec t' = .next u' →
    ∀ j : Nat, u.frame.getLsbD j = true → u'.frame.getLsbD j = true

/-! ### Whole runs -/

/-- A DECODE run, from any state in which no run is in progress and for any durations (R112, R172): on a frame whose
checksum holds the fourth tick ends it with a reading and no error; on any other frame the third tick ends it with
`ChecksumMismatch` and no reading. The durations, the line registers and the priority request are as before. The command
stands in the script as a CMD32 value, an event of its own by the model's reading (log entry 12). -/
def Obligations.DecodeRunEndsInAReadingOrAMismatch : Prop :=
  ∀ (s : State) (a b c d : Bool) (rest : List Event), s.busy = false →
    s.script = .command 2#32 :: ticksOf [a, b, c, d] ++ rest →
    let f := frameOf (thresholdOf s.pdl) s.pdh
    (ChecksumOk f → ∃ t, runSteps 5 s = .next t ∧
      t.phase = 0#4 ∧ t.busy = false ∧ t.done = true ∧ t.valid = true ∧ t.err = 0#2 ∧ t.esite = 0#4 ∧ t.idx = 0#6 ∧
      t.thresh = thresholdOf s.pdl ∧ t.frame = f ∧ t.hum.toNat = humTenths f ∧ t.tmag.toNat = tempMagnitude f ∧
      (t.hfb = true ↔ HumFallback f) ∧ (t.tfb = true ↔ TempFallback f) ∧
      t.tneg = tempSign f ∧ t.tempC = celsiusTenths f ∧ t.tempF = fahrenheitHundredths (celsiusTenths f) ∧
      t.pdl = s.pdl ∧ t.pdh = s.pdh ∧ t.lineOe = s.lineOe ∧ t.lineOut = s.lineOut ∧ t.prio = s.prio ∧
      t.script = rest) ∧
    (¬ ChecksumOk f → ∃ t, runSteps 4 s = .next t ∧
      t.phase = 0#4 ∧ t.busy = false ∧ t.done = true ∧ t.valid = false ∧ t.err = 2#2 ∧ t.esite = 0#4 ∧ t.idx = 0#6 ∧
      t.thresh = thresholdOf s.pdl ∧ t.frame = f ∧ t.ReadingCleared ∧
      t.pdl = s.pdl ∧ t.pdh = s.pdh ∧ t.lineOe = s.lineOe ∧ t.lineOut = s.lineOut ∧ t.prio = s.prio ∧
      t.script = .tick false d :: rest)

/-- What the line sees in a READ run (R135): with `k` ticks behind it, so in its tick `k + 1`, the block drives High while
`k < W`, drives Low for the next `L + 1` ticks, and drives nothing after that; the priority request goes up when the line
is released and stays up at least to the first tick that looks at the line. The command stands in the script as a CMD32
value, an event of its own by the model's reading (log entry 12). -/
def Obligations.WakeWaveformIsAsLongAsTheParametersSay : Prop :=
  ∀ (s : State) (samples : List Bool) (rest : List Event) (k : Nat), s.Inv → s.busy = false →
    s.script = .command 1#32 :: ticksOf samples ++ rest → k ≤ samples.length →
    let w := s.params.wakeHighTicks.toNat
    let l := s.params.wakeLowTicks.toNat
    let n := s.params.settleTicks.toNat
    ∃ t, runSteps (k + 1) s = .next t ∧
      (k < w → ports t = { lineOut := true, lineOe := true, prioReq := false, busy := true, done := false }) ∧
      (w ≤ k → k < w + l + 1 →
        ports t = { lineOut := false, lineOe := true, prioReq := false, busy := true, done := false }) ∧
      (w + l + 1 ≤ k → t.lineOe = false ∧ t.lineOut = false) ∧
      (w + l + 1 ≤ k → k ≤ w + l + n + 1 → t.prio = true) ∧
      (k = w + l + n + 1 → t.phase = 5#4 ∧ t.cnt = 0#32)

/-- How the recorded counts relate to the waveform (R143, R250): from the start of READY_WAIT, `r` High samples, then Low
and High runs of lengths `l 0, h 0, …, l 40, h 40`, none longer than `M + 1`, then one Low sample, complete the capture in
`r + 1` plus the sum of all run lengths ticks, with every count one less than its run. -/
def Obligations.CaptureRecordsEveryRunLessOne : Prop :=
  ∀ (s : State) (r : Nat) (l h : Pair → Nat) (rest : List Event),
    s.phase = 5#4 → s.cnt = 0#32 → r ≤ s.params.maxCount.toNat →
    (∀ i : Pair, s.pdl[i] = 0#16 ∧ s.pdh[i] = 0#16) →
    (∀ i : Pair, 1 ≤ l i ∧ l i ≤ s.params.maxCount.toNat + 1 ∧ 1 ≤ h i ∧ h i ≤ s.params.maxCount.toNat + 1) →
    s.script = ticksOf (List.replicate r true ++ [false] ++ frameSamples l h) ++ rest →
    ∃ t, runSteps (r + 1 + ∑ i : Pair, (l i + h i)) s = .next t ∧
      t = { s with
        phase := 8#4, prio := false, idx := 40#6, cnt := t.cnt, pdl := t.pdl, pdh := t.pdh, lineIn := false
        script := rest } ∧
      t.cnt.toNat = r ∧ ∀ i : Pair, t.pdl[i].toNat = l i - 1 ∧ t.pdh[i].toNat = h i - 1

/-- Every tick of a run brings its end nearer, and no host access puts it off: the number of ticks still possible goes
down (R244). -/
def Obligations.EveryTickBringsTheEndNearer : Prop :=
  ∀ (s t : State) (e : Event), s.Inv → s.busy = true → onEvent e s = .next t →
    t.ticksLeft ≤ s.ticksLeft ∧ ((∃ rst sample, e = .tick rst sample) → t.ticksLeft < s.ticksLeft) ∧
    (t.ticksLeft = 0 ↔ t.busy = false)

/-- Every READ run with no host access between its ticks ends, in one of its three outcomes, after at most
`W + L + 1 + S + 83 (M + 1) + 4` ticks, whatever the samples are (R244, R116); that host accesses do not put the end off is
`EveryTickBringsTheEndNearer`. The command stands in the script as a CMD32 value, an event of its own by the model's reading
(log entry 12). -/
def Obligations.EveryReadRunEndsWithinTheBound : Prop :=
  ∀ (s : State) (samples : List Bool) (rest : List Event), s.Inv → s.busy = false →
    s.script = .command 1#32 :: ticksOf samples ++ rest → s.readBound ≤ samples.length →
    ∃ k ≤ s.readBound, ∃ t, runSteps (k + 1) s = .next t ∧ t.busy = false ∧ t.done = true ∧
      (t.valid = true ∧ t.err = 0#2 ∨
        t.valid = false ∧ t.err = 1#2 ∧ t.ReadingCleared ∨
        t.valid = false ∧ t.err = 2#2 ∧ t.ReadingCleared)
end

