-- ==== Sys2Proof/Laws/Decode.lean ====
section
/-! SUPPORT. The window indices and the HT41 fields: what encoding puts in, decoding takes out. -/

namespace Sys2Proof

theorem pdlIndex_toNat (i : Pair) : (pdlIndex i).toNat = 0x40 + 2 * i.val := by
  simp only [pdlIndex, BitVec.toNat_ofNat]; omega

theorem pdhIndex_toNat (i : Pair) : (pdhIndex i).toNat = 0x41 + 2 * i.val := by
  simp only [pdhIndex, BitVec.toNat_ofNat]; omega

@[simp] theorem windowPair_pdlIndex (i : Pair) : windowPair (pdlIndex i) = some i := by
  have h := pdlIndex_toNat i
  simp only [windowPair, h]
  split
  · simp only [Option.some.injEq]; ext; simp only; omega
  · omega

@[simp] theorem windowPair_pdhIndex (i : Pair) : windowPair (pdhIndex i) = some i := by
  have h := pdhIndex_toNat i
  simp only [windowPair, h]
  split
  · simp only [Option.some.injEq]; ext; simp only; omega
  · omega

@[simp] theorem windowHigh_pdlIndex (i : Pair) : windowHigh (pdlIndex i) = false := by
  simp only [windowHigh, pdlIndex_toNat, decide_eq_false_iff_not]; omega

@[simp] theorem windowHigh_pdhIndex (i : Pair) : windowHigh (pdhIndex i) = true := by
  simp only [windowHigh, pdhIndex_toNat, decide_eq_true_eq]; omega

/-- An index has a pair exactly when it lies in the window 0x40 to 0x91 (R64). -/
theorem windowPair_eq_none_iff (idx : Index) : windowPair idx = none ↔ ¬ idx.InWindow := by
  simp only [windowPair]; split <;> simp_all

/-- A window index that names a low half is the index of that pair's `PDL` entry. -/
theorem eq_pdlIndex_of_windowPair {idx : Index} {i : Pair} (h : windowPair idx = some i)
    (hl : windowHigh idx = false) : idx = pdlIndex i := by
  apply BitVec.eq_of_toNat_eq
  rw [pdlIndex_toNat]
  simp only [windowPair] at h
  split at h
  · simp only [Option.some.injEq] at h
    simp only [windowHigh, decide_eq_false_iff_not] at hl
    subst h; simp only; omega
  · cases h

/-- A window index that names a high half is the index of that pair's `PDH` entry. -/
theorem eq_pdhIndex_of_windowPair {idx : Index} {i : Pair} (h : windowPair idx = some i)
    (hh : windowHigh idx = true) : idx = pdhIndex i := by
  apply BitVec.eq_of_toNat_eq
  rw [pdhIndex_toNat]
  simp only [windowPair] at h
  split at h
  · simp only [Option.some.injEq] at h
    simp only [windowHigh, decide_eq_true_eq] at hh
    subst h; simp only; omega
  · cases h

/-- An index of the window is the index of a `PDL` or of a `PDH` entry (R64). -/
theorem pdlIndex_or_pdhIndex_of_inWindow {idx : Index} (h : idx.InWindow) :
    ∃ i, idx = pdlIndex i ∨ idx = pdhIndex i := by
  cases hw : windowPair idx with
  | none => exact absurd h ((windowPair_eq_none_iff idx).1 hw)
  | some i =>
    cases hh : windowHigh idx with
    | true => exact ⟨i, .inr (eq_pdhIndex_of_windowPair hw hh)⟩
    | false => exact ⟨i, .inl (eq_pdlIndex_of_windowPair hw hh)⟩

@[simp] theorem ht41K_ht41 (k : Bool) (idx : Index) (data : Word) : ht41K (ht41 k idx data) = k := by
  unfold ht41K ht41
  rw [BitVec.getLsbD_append, BitVec.getLsbD_append]
  simp

@[simp] theorem ht41Idx_ht41 (k : Bool) (idx : Index) (data : Word) : ht41Idx (ht41 k idx data) = idx := by
  apply BitVec.eq_of_getLsbD_eq
  intro j hj
  simp only [ht41Idx, ht41, BitVec.getLsbD_extractLsb', BitVec.getLsbD_append]
  simp [show ¬ (32 + j < 32) by omega, show (32 + j - 32) = j by omega, hj]

@[simp] theorem ht41Data_ht41 (k : Bool) (idx : Index) (data : Word) : ht41Data (ht41 k idx data) = data := by
  apply BitVec.eq_of_getLsbD_eq
  intro j hj
  simp only [ht41Data, ht41, BitVec.getLsbD_extractLsb', BitVec.getLsbD_append]
  simp [hj]

/-- An HT41 word is its three fields (R80). -/
theorem ht41_fields (w : BitVec 41) : ht41 (ht41K w) (ht41Idx w) (ht41Data w) = w := by
  apply BitVec.eq_of_getLsbD_eq
  intro j hj
  simp only [ht41, ht41K, ht41Idx, ht41Data, BitVec.getLsbD_append, BitVec.getLsbD_extractLsb', BitVec.getLsbD_ofBool]
  by_cases h1 : j < 32
  · simp [h1]
  · by_cases h2 : j - 32 < 8
    · simp [h1, h2, show 32 + (j - 32) = j by omega]
    · have : j = 40 := by omega
      subst this; simp

/-- The number of an HT41 word: `K * 2^40 + IDXW * 2^32 + DATA` (R91). -/
theorem ht41_toNat (k : Bool) (idx : Index) (data : Word) :
    (ht41 k idx data).toNat = k.toNat * 2 ^ 40 + idx.toNat * 2 ^ 32 + data.toNat := by
  have hd := data.isLt
  have hi := idx.isLt
  unfold ht41
  rw [BitVec.toNat_append, BitVec.toNat_append, ← Nat.shiftLeft_add_eq_or_of_lt hd,
    ← Nat.shiftLeft_add_eq_or_of_lt hi, Nat.shiftLeft_eq, Nat.shiftLeft_eq, BitVec.toNat_ofBool]
  omega

end Sys2Proof
end

