-- ==== Sys2Proof/Laws/State.lean ====
section
/-! SUPPORT. What each update of the state leaves in each field, so that no proof unfolds a record update. -/

namespace Sys2Proof.Machine

/-! ### `acceptFlags` -/

@[simp] theorem acceptFlags_phase (s : State) : (acceptFlags s).phase = s.phase := rfl
@[simp] theorem acceptFlags_idx (s : State) : (acceptFlags s).idx = s.idx := rfl
@[simp] theorem acceptFlags_cnt (s : State) : (acceptFlags s).cnt = s.cnt := rfl
@[simp] theorem acceptFlags_pdl (s : State) : (acceptFlags s).pdl = s.pdl := rfl
@[simp] theorem acceptFlags_pdh (s : State) : (acceptFlags s).pdh = s.pdh := rfl
@[simp] theorem acceptFlags_thresh (s : State) : (acceptFlags s).thresh = s.thresh := rfl
@[simp] theorem acceptFlags_frame (s : State) : (acceptFlags s).frame = s.frame := rfl
@[simp] theorem acceptFlags_hum (s : State) : (acceptFlags s).hum = s.hum := rfl
@[simp] theorem acceptFlags_tmag (s : State) : (acceptFlags s).tmag = s.tmag := rfl
@[simp] theorem acceptFlags_tempC (s : State) : (acceptFlags s).tempC = s.tempC := rfl
@[simp] theorem acceptFlags_tempF (s : State) : (acceptFlags s).tempF = s.tempF := rfl
@[simp] theorem acceptFlags_valid (s : State) : (acceptFlags s).valid = false := rfl
@[simp] theorem acceptFlags_err (s : State) : (acceptFlags s).err = 0#2 := rfl
@[simp] theorem acceptFlags_esite (s : State) : (acceptFlags s).esite = 0#4 := rfl
@[simp] theorem acceptFlags_busy (s : State) : (acceptFlags s).busy = true := rfl
@[simp] theorem acceptFlags_done (s : State) : (acceptFlags s).done = false := rfl
@[simp] theorem acceptFlags_illcmd (s : State) : (acceptFlags s).illcmd = false := rfl
@[simp] theorem acceptFlags_busyrej (s : State) : (acceptFlags s).busyrej = false := rfl
@[simp] theorem acceptFlags_tneg (s : State) : (acceptFlags s).tneg = false := rfl
@[simp] theorem acceptFlags_hfb (s : State) : (acceptFlags s).hfb = false := rfl
@[simp] theorem acceptFlags_tfb (s : State) : (acceptFlags s).tfb = false := rfl
@[simp] theorem acceptFlags_lineOe (s : State) : (acceptFlags s).lineOe = s.lineOe := rfl
@[simp] theorem acceptFlags_lineOut (s : State) : (acceptFlags s).lineOut = s.lineOut := rfl
@[simp] theorem acceptFlags_prio (s : State) : (acceptFlags s).prio = s.prio := rfl
@[simp] theorem acceptFlags_params (s : State) : (acceptFlags s).params = s.params := rfl
@[simp] theorem acceptFlags_lineIn (s : State) : (acceptFlags s).lineIn = s.lineIn := rfl
@[simp] theorem acceptFlags_hostData (s : State) : (acceptFlags s).hostData = s.hostData := rfl
@[simp] theorem acceptFlags_script (s : State) : (acceptFlags s).script = s.script := rfl
@[simp] theorem acceptFlags_draws (s : State) : (acceptFlags s).draws = s.draws := rfl

/-! ### `endRun` -/

@[simp] theorem endRun_phase (s : State) : (endRun s).phase = 0#4 := rfl
@[simp] theorem endRun_idx (s : State) : (endRun s).idx = s.idx := rfl
@[simp] theorem endRun_cnt (s : State) : (endRun s).cnt = s.cnt := rfl
@[simp] theorem endRun_pdl (s : State) : (endRun s).pdl = s.pdl := rfl
@[simp] theorem endRun_pdh (s : State) : (endRun s).pdh = s.pdh := rfl
@[simp] theorem endRun_thresh (s : State) : (endRun s).thresh = s.thresh := rfl
@[simp] theorem endRun_frame (s : State) : (endRun s).frame = s.frame := rfl
@[simp] theorem endRun_hum (s : State) : (endRun s).hum = s.hum := rfl
@[simp] theorem endRun_tmag (s : State) : (endRun s).tmag = s.tmag := rfl
@[simp] theorem endRun_tempC (s : State) : (endRun s).tempC = s.tempC := rfl
@[simp] theorem endRun_tempF (s : State) : (endRun s).tempF = s.tempF := rfl
@[simp] theorem endRun_valid (s : State) : (endRun s).valid = s.valid := rfl
@[simp] theorem endRun_err (s : State) : (endRun s).err = s.err := rfl
@[simp] theorem endRun_esite (s : State) : (endRun s).esite = s.esite := rfl
@[simp] theorem endRun_busy (s : State) : (endRun s).busy = false := rfl
@[simp] theorem endRun_done (s : State) : (endRun s).done = true := rfl
@[simp] theorem endRun_illcmd (s : State) : (endRun s).illcmd = s.illcmd := rfl
@[simp] theorem endRun_busyrej (s : State) : (endRun s).busyrej = s.busyrej := rfl
@[simp] theorem endRun_tneg (s : State) : (endRun s).tneg = s.tneg := rfl
@[simp] theorem endRun_hfb (s : State) : (endRun s).hfb = s.hfb := rfl
@[simp] theorem endRun_tfb (s : State) : (endRun s).tfb = s.tfb := rfl
@[simp] theorem endRun_lineOe (s : State) : (endRun s).lineOe = s.lineOe := rfl
@[simp] theorem endRun_lineOut (s : State) : (endRun s).lineOut = s.lineOut := rfl
@[simp] theorem endRun_prio (s : State) : (endRun s).prio = s.prio := rfl
@[simp] theorem endRun_params (s : State) : (endRun s).params = s.params := rfl
@[simp] theorem endRun_lineIn (s : State) : (endRun s).lineIn = s.lineIn := rfl
@[simp] theorem endRun_hostData (s : State) : (endRun s).hostData = s.hostData := rfl
@[simp] theorem endRun_script (s : State) : (endRun s).script = s.script := rfl
@[simp] theorem endRun_draws (s : State) : (endRun s).draws = s.draws := rfl

/-! ### `setIllegal` -/

@[simp] theorem setIllegal_phase (s : State) : (setIllegal s).phase = s.phase := rfl
@[simp] theorem setIllegal_idx (s : State) : (setIllegal s).idx = s.idx := rfl
@[simp] theorem setIllegal_cnt (s : State) : (setIllegal s).cnt = s.cnt := rfl
@[simp] theorem setIllegal_pdl (s : State) : (setIllegal s).pdl = s.pdl := rfl
@[simp] theorem setIllegal_pdh (s : State) : (setIllegal s).pdh = s.pdh := rfl
@[simp] theorem setIllegal_thresh (s : State) : (setIllegal s).thresh = s.thresh := rfl
@[simp] theorem setIllegal_frame (s : State) : (setIllegal s).frame = s.frame := rfl
@[simp] theorem setIllegal_hum (s : State) : (setIllegal s).hum = s.hum := rfl
@[simp] theorem setIllegal_tmag (s : State) : (setIllegal s).tmag = s.tmag := rfl
@[simp] theorem setIllegal_tempC (s : State) : (setIllegal s).tempC = s.tempC := rfl
@[simp] theorem setIllegal_tempF (s : State) : (setIllegal s).tempF = s.tempF := rfl
@[simp] theorem setIllegal_valid (s : State) : (setIllegal s).valid = s.valid := rfl
@[simp] theorem setIllegal_err (s : State) : (setIllegal s).err = s.err := rfl
@[simp] theorem setIllegal_esite (s : State) : (setIllegal s).esite = s.esite := rfl
@[simp] theorem setIllegal_busy (s : State) : (setIllegal s).busy = s.busy := rfl
@[simp] theorem setIllegal_done (s : State) : (setIllegal s).done = s.done := rfl
@[simp] theorem setIllegal_illcmd (s : State) : (setIllegal s).illcmd = true := rfl
@[simp] theorem setIllegal_busyrej (s : State) : (setIllegal s).busyrej = s.busyrej := rfl
@[simp] theorem setIllegal_tneg (s : State) : (setIllegal s).tneg = s.tneg := rfl
@[simp] theorem setIllegal_hfb (s : State) : (setIllegal s).hfb = s.hfb := rfl
@[simp] theorem setIllegal_tfb (s : State) : (setIllegal s).tfb = s.tfb := rfl
@[simp] theorem setIllegal_lineOe (s : State) : (setIllegal s).lineOe = s.lineOe := rfl
@[simp] theorem setIllegal_lineOut (s : State) : (setIllegal s).lineOut = s.lineOut := rfl
@[simp] theorem setIllegal_prio (s : State) : (setIllegal s).prio = s.prio := rfl
@[simp] theorem setIllegal_params (s : State) : (setIllegal s).params = s.params := rfl
@[simp] theorem setIllegal_lineIn (s : State) : (setIllegal s).lineIn = s.lineIn := rfl
@[simp] theorem setIllegal_hostData (s : State) : (setIllegal s).hostData = s.hostData := rfl
@[simp] theorem setIllegal_script (s : State) : (setIllegal s).script = s.script := rfl
@[simp] theorem setIllegal_draws (s : State) : (setIllegal s).draws = s.draws := rfl

/-! ### `setBusyReject` -/

@[simp] theorem setBusyReject_phase (s : State) : (setBusyReject s).phase = s.phase := rfl
@[simp] theorem setBusyReject_idx (s : State) : (setBusyReject s).idx = s.idx := rfl
@[simp] theorem setBusyReject_cnt (s : State) : (setBusyReject s).cnt = s.cnt := rfl
@[simp] theorem setBusyReject_pdl (s : State) : (setBusyReject s).pdl = s.pdl := rfl
@[simp] theorem setBusyReject_pdh (s : State) : (setBusyReject s).pdh = s.pdh := rfl
@[simp] theorem setBusyReject_thresh (s : State) : (setBusyReject s).thresh = s.thresh := rfl
@[simp] theorem setBusyReject_frame (s : State) : (setBusyReject s).frame = s.frame := rfl
@[simp] theorem setBusyReject_hum (s : State) : (setBusyReject s).hum = s.hum := rfl
@[simp] theorem setBusyReject_tmag (s : State) : (setBusyReject s).tmag = s.tmag := rfl
@[simp] theorem setBusyReject_tempC (s : State) : (setBusyReject s).tempC = s.tempC := rfl
@[simp] theorem setBusyReject_tempF (s : State) : (setBusyReject s).tempF = s.tempF := rfl
@[simp] theorem setBusyReject_valid (s : State) : (setBusyReject s).valid = s.valid := rfl
@[simp] theorem setBusyReject_err (s : State) : (setBusyReject s).err = s.err := rfl
@[simp] theorem setBusyReject_esite (s : State) : (setBusyReject s).esite = s.esite := rfl
@[simp] theorem setBusyReject_busy (s : State) : (setBusyReject s).busy = s.busy := rfl
@[simp] theorem setBusyReject_done (s : State) : (setBusyReject s).done = s.done := rfl
@[simp] theorem setBusyReject_illcmd (s : State) : (setBusyReject s).illcmd = s.illcmd := rfl
@[simp] theorem setBusyReject_busyrej (s : State) : (setBusyReject s).busyrej = true := rfl
@[simp] theorem setBusyReject_tneg (s : State) : (setBusyReject s).tneg = s.tneg := rfl
@[simp] theorem setBusyReject_hfb (s : State) : (setBusyReject s).hfb = s.hfb := rfl
@[simp] theorem setBusyReject_tfb (s : State) : (setBusyReject s).tfb = s.tfb := rfl
@[simp] theorem setBusyReject_lineOe (s : State) : (setBusyReject s).lineOe = s.lineOe := rfl
@[simp] theorem setBusyReject_lineOut (s : State) : (setBusyReject s).lineOut = s.lineOut := rfl
@[simp] theorem setBusyReject_prio (s : State) : (setBusyReject s).prio = s.prio := rfl
@[simp] theorem setBusyReject_params (s : State) : (setBusyReject s).params = s.params := rfl
@[simp] theorem setBusyReject_lineIn (s : State) : (setBusyReject s).lineIn = s.lineIn := rfl
@[simp] theorem setBusyReject_hostData (s : State) : (setBusyReject s).hostData = s.hostData := rfl
@[simp] theorem setBusyReject_script (s : State) : (setBusyReject s).script = s.script := rfl
@[simp] theorem setBusyReject_draws (s : State) : (setBusyReject s).draws = s.draws := rfl

/-! ### `raiseTimeout` -/

@[simp] theorem raiseTimeout_phase (site : BitVec 4) (s : State) : (raiseTimeout site s).phase = 0#4 := rfl
@[simp] theorem raiseTimeout_idx (site : BitVec 4) (s : State) : (raiseTimeout site s).idx = s.idx := rfl
@[simp] theorem raiseTimeout_cnt (site : BitVec 4) (s : State) : (raiseTimeout site s).cnt = s.cnt := rfl
@[simp] theorem raiseTimeout_pdl (site : BitVec 4) (s : State) : (raiseTimeout site s).pdl = s.pdl := rfl
@[simp] theorem raiseTimeout_pdh (site : BitVec 4) (s : State) : (raiseTimeout site s).pdh = s.pdh := rfl
@[simp] theorem raiseTimeout_thresh (site : BitVec 4) (s : State) : (raiseTimeout site s).thresh = s.thresh := rfl
@[simp] theorem raiseTimeout_frame (site : BitVec 4) (s : State) : (raiseTimeout site s).frame = s.frame := rfl
@[simp] theorem raiseTimeout_hum (site : BitVec 4) (s : State) : (raiseTimeout site s).hum = s.hum := rfl
@[simp] theorem raiseTimeout_tmag (site : BitVec 4) (s : State) : (raiseTimeout site s).tmag = s.tmag := rfl
@[simp] theorem raiseTimeout_tempC (site : BitVec 4) (s : State) : (raiseTimeout site s).tempC = s.tempC := rfl
@[simp] theorem raiseTimeout_tempF (site : BitVec 4) (s : State) : (raiseTimeout site s).tempF = s.tempF := rfl
@[simp] theorem raiseTimeout_valid (site : BitVec 4) (s : State) : (raiseTimeout site s).valid = s.valid := rfl
@[simp] theorem raiseTimeout_err (site : BitVec 4) (s : State) : (raiseTimeout site s).err = 1#2 := rfl
@[simp] theorem raiseTimeout_esite (site : BitVec 4) (s : State) : (raiseTimeout site s).esite = site := rfl
@[simp] theorem raiseTimeout_busy (site : BitVec 4) (s : State) : (raiseTimeout site s).busy = false := rfl
@[simp] theorem raiseTimeout_done (site : BitVec 4) (s : State) : (raiseTimeout site s).done = true := rfl
@[simp] theorem raiseTimeout_illcmd (site : BitVec 4) (s : State) : (raiseTimeout site s).illcmd = s.illcmd := rfl
@[simp] theorem raiseTimeout_busyrej (site : BitVec 4) (s : State) : (raiseTimeout site s).busyrej = s.busyrej := rfl
@[simp] theorem raiseTimeout_tneg (site : BitVec 4) (s : State) : (raiseTimeout site s).tneg = s.tneg := rfl
@[simp] theorem raiseTimeout_hfb (site : BitVec 4) (s : State) : (raiseTimeout site s).hfb = s.hfb := rfl
@[simp] theorem raiseTimeout_tfb (site : BitVec 4) (s : State) : (raiseTimeout site s).tfb = s.tfb := rfl
@[simp] theorem raiseTimeout_lineOe (site : BitVec 4) (s : State) : (raiseTimeout site s).lineOe = s.lineOe := rfl
@[simp] theorem raiseTimeout_lineOut (site : BitVec 4) (s : State) : (raiseTimeout site s).lineOut = s.lineOut := rfl
@[simp] theorem raiseTimeout_prio (site : BitVec 4) (s : State) : (raiseTimeout site s).prio = false := rfl
@[simp] theorem raiseTimeout_params (site : BitVec 4) (s : State) : (raiseTimeout site s).params = s.params := rfl
@[simp] theorem raiseTimeout_lineIn (site : BitVec 4) (s : State) : (raiseTimeout site s).lineIn = s.lineIn := rfl
@[simp] theorem raiseTimeout_hostData (site : BitVec 4) (s : State) : (raiseTimeout site s).hostData = s.hostData := rfl
@[simp] theorem raiseTimeout_script (site : BitVec 4) (s : State) : (raiseTimeout site s).script = s.script := rfl
@[simp] theorem raiseTimeout_draws (site : BitVec 4) (s : State) : (raiseTimeout site s).draws = s.draws := rfl

/-! ### `raiseChecksumMismatch` -/

@[simp] theorem raiseChecksumMismatch_phase (s : State) : (raiseChecksumMismatch s).phase = 0#4 := rfl
@[simp] theorem raiseChecksumMismatch_idx (s : State) : (raiseChecksumMismatch s).idx = s.idx := rfl
@[simp] theorem raiseChecksumMismatch_cnt (s : State) : (raiseChecksumMismatch s).cnt = s.cnt := rfl
@[simp] theorem raiseChecksumMismatch_pdl (s : State) : (raiseChecksumMismatch s).pdl = s.pdl := rfl
@[simp] theorem raiseChecksumMismatch_pdh (s : State) : (raiseChecksumMismatch s).pdh = s.pdh := rfl
@[simp] theorem raiseChecksumMismatch_thresh (s : State) : (raiseChecksumMismatch s).thresh = s.thresh := rfl
@[simp] theorem raiseChecksumMismatch_frame (s : State) : (raiseChecksumMismatch s).frame = s.frame := rfl
@[simp] theorem raiseChecksumMismatch_hum (s : State) : (raiseChecksumMismatch s).hum = s.hum := rfl
@[simp] theorem raiseChecksumMismatch_tmag (s : State) : (raiseChecksumMismatch s).tmag = s.tmag := rfl
@[simp] theorem raiseChecksumMismatch_tempC (s : State) : (raiseChecksumMismatch s).tempC = s.tempC := rfl
@[simp] theorem raiseChecksumMismatch_tempF (s : State) : (raiseChecksumMismatch s).tempF = s.tempF := rfl
@[simp] theorem raiseChecksumMismatch_valid (s : State) : (raiseChecksumMismatch s).valid = s.valid := rfl
@[simp] theorem raiseChecksumMismatch_err (s : State) : (raiseChecksumMismatch s).err = 2#2 := rfl
@[simp] theorem raiseChecksumMismatch_esite (s : State) : (raiseChecksumMismatch s).esite = s.esite := rfl
@[simp] theorem raiseChecksumMismatch_busy (s : State) : (raiseChecksumMismatch s).busy = false := rfl
@[simp] theorem raiseChecksumMismatch_done (s : State) : (raiseChecksumMismatch s).done = true := rfl
@[simp] theorem raiseChecksumMismatch_illcmd (s : State) : (raiseChecksumMismatch s).illcmd = s.illcmd := rfl
@[simp] theorem raiseChecksumMismatch_busyrej (s : State) : (raiseChecksumMismatch s).busyrej = s.busyrej := rfl
@[simp] theorem raiseChecksumMismatch_tneg (s : State) : (raiseChecksumMismatch s).tneg = s.tneg := rfl
@[simp] theorem raiseChecksumMismatch_hfb (s : State) : (raiseChecksumMismatch s).hfb = s.hfb := rfl
@[simp] theorem raiseChecksumMismatch_tfb (s : State) : (raiseChecksumMismatch s).tfb = s.tfb := rfl
@[simp] theorem raiseChecksumMismatch_lineOe (s : State) : (raiseChecksumMismatch s).lineOe = s.lineOe := rfl
@[simp] theorem raiseChecksumMismatch_lineOut (s : State) : (raiseChecksumMismatch s).lineOut = s.lineOut := rfl
@[simp] theorem raiseChecksumMismatch_prio (s : State) : (raiseChecksumMismatch s).prio = s.prio := rfl
@[simp] theorem raiseChecksumMismatch_params (s : State) : (raiseChecksumMismatch s).params = s.params := rfl
@[simp] theorem raiseChecksumMismatch_lineIn (s : State) : (raiseChecksumMismatch s).lineIn = s.lineIn := rfl
@[simp] theorem raiseChecksumMismatch_hostData (s : State) : (raiseChecksumMismatch s).hostData = s.hostData := rfl
@[simp] theorem raiseChecksumMismatch_script (s : State) : (raiseChecksumMismatch s).script = s.script := rfl
@[simp] theorem raiseChecksumMismatch_draws (s : State) : (raiseChecksumMismatch s).draws = s.draws := rfl

/-! ### `acceptClear` -/

@[simp] theorem acceptClear_phase (s : State) : (acceptClear s).phase = s.phase := rfl
@[simp] theorem acceptClear_idx (s : State) : (acceptClear s).idx = 0#6 := rfl
@[simp] theorem acceptClear_cnt (s : State) : (acceptClear s).cnt = 0#32 := rfl
@[simp] theorem acceptClear_pdl (s : State) : (acceptClear s).pdl = s.pdl := rfl
@[simp] theorem acceptClear_pdh (s : State) : (acceptClear s).pdh = s.pdh := rfl
@[simp] theorem acceptClear_thresh (s : State) : (acceptClear s).thresh = 0#16 := rfl
@[simp] theorem acceptClear_frame (s : State) : (acceptClear s).frame = 0#40 := rfl
@[simp] theorem acceptClear_hum (s : State) : (acceptClear s).hum = 0#12 := rfl
@[simp] theorem acceptClear_tmag (s : State) : (acceptClear s).tmag = 0#12 := rfl
@[simp] theorem acceptClear_tempC (s : State) : (acceptClear s).tempC = 0#32 := rfl
@[simp] theorem acceptClear_tempF (s : State) : (acceptClear s).tempF = 0#32 := rfl
@[simp] theorem acceptClear_valid (s : State) : (acceptClear s).valid = false := rfl
@[simp] theorem acceptClear_err (s : State) : (acceptClear s).err = 0#2 := rfl
@[simp] theorem acceptClear_esite (s : State) : (acceptClear s).esite = 0#4 := rfl
@[simp] theorem acceptClear_busy (s : State) : (acceptClear s).busy = true := rfl
@[simp] theorem acceptClear_done (s : State) : (acceptClear s).done = false := rfl
@[simp] theorem acceptClear_illcmd (s : State) : (acceptClear s).illcmd = false := rfl
@[simp] theorem acceptClear_busyrej (s : State) : (acceptClear s).busyrej = false := rfl
@[simp] theorem acceptClear_tneg (s : State) : (acceptClear s).tneg = false := rfl
@[simp] theorem acceptClear_hfb (s : State) : (acceptClear s).hfb = false := rfl
@[simp] theorem acceptClear_tfb (s : State) : (acceptClear s).tfb = false := rfl
@[simp] theorem acceptClear_lineOe (s : State) : (acceptClear s).lineOe = s.lineOe := rfl
@[simp] theorem acceptClear_lineOut (s : State) : (acceptClear s).lineOut = s.lineOut := rfl
@[simp] theorem acceptClear_prio (s : State) : (acceptClear s).prio = s.prio := rfl
@[simp] theorem acceptClear_params (s : State) : (acceptClear s).params = s.params := rfl
@[simp] theorem acceptClear_lineIn (s : State) : (acceptClear s).lineIn = s.lineIn := rfl
@[simp] theorem acceptClear_hostData (s : State) : (acceptClear s).hostData = s.hostData := rfl
@[simp] theorem acceptClear_script (s : State) : (acceptClear s).script = s.script := rfl
@[simp] theorem acceptClear_draws (s : State) : (acceptClear s).draws = s.draws := rfl

/-! ### `clearDurations` -/

@[simp] theorem clearDurations_phase (s : State) : (clearDurations s).phase = s.phase := rfl
@[simp] theorem clearDurations_idx (s : State) : (clearDurations s).idx = s.idx := rfl
@[simp] theorem clearDurations_cnt (s : State) : (clearDurations s).cnt = s.cnt := rfl
@[simp] theorem clearDurations_pdl (s : State) : (clearDurations s).pdl = Vector.replicate 41 0#16 := rfl
@[simp] theorem clearDurations_pdh (s : State) : (clearDurations s).pdh = Vector.replicate 41 0#16 := rfl
@[simp] theorem clearDurations_thresh (s : State) : (clearDurations s).thresh = s.thresh := rfl
@[simp] theorem clearDurations_frame (s : State) : (clearDurations s).frame = s.frame := rfl
@[simp] theorem clearDurations_hum (s : State) : (clearDurations s).hum = s.hum := rfl
@[simp] theorem clearDurations_tmag (s : State) : (clearDurations s).tmag = s.tmag := rfl
@[simp] theorem clearDurations_tempC (s : State) : (clearDurations s).tempC = s.tempC := rfl
@[simp] theorem clearDurations_tempF (s : State) : (clearDurations s).tempF = s.tempF := rfl
@[simp] theorem clearDurations_valid (s : State) : (clearDurations s).valid = s.valid := rfl
@[simp] theorem clearDurations_err (s : State) : (clearDurations s).err = s.err := rfl
@[simp] theorem clearDurations_esite (s : State) : (clearDurations s).esite = s.esite := rfl
@[simp] theorem clearDurations_busy (s : State) : (clearDurations s).busy = s.busy := rfl
@[simp] theorem clearDurations_done (s : State) : (clearDurations s).done = s.done := rfl
@[simp] theorem clearDurations_illcmd (s : State) : (clearDurations s).illcmd = s.illcmd := rfl
@[simp] theorem clearDurations_busyrej (s : State) : (clearDurations s).busyrej = s.busyrej := rfl
@[simp] theorem clearDurations_tneg (s : State) : (clearDurations s).tneg = s.tneg := rfl
@[simp] theorem clearDurations_hfb (s : State) : (clearDurations s).hfb = s.hfb := rfl
@[simp] theorem clearDurations_tfb (s : State) : (clearDurations s).tfb = s.tfb := rfl
@[simp] theorem clearDurations_lineOe (s : State) : (clearDurations s).lineOe = s.lineOe := rfl
@[simp] theorem clearDurations_lineOut (s : State) : (clearDurations s).lineOut = s.lineOut := rfl
@[simp] theorem clearDurations_prio (s : State) : (clearDurations s).prio = s.prio := rfl
@[simp] theorem clearDurations_params (s : State) : (clearDurations s).params = s.params := rfl
@[simp] theorem clearDurations_lineIn (s : State) : (clearDurations s).lineIn = s.lineIn := rfl
@[simp] theorem clearDurations_hostData (s : State) : (clearDurations s).hostData = s.hostData := rfl
@[simp] theorem clearDurations_script (s : State) : (clearDurations s).script = s.script := rfl
@[simp] theorem clearDurations_draws (s : State) : (clearDurations s).draws = s.draws := rfl

/-! ### `acceptRead` -/

@[simp] theorem acceptRead_phase (s : State) : (acceptRead s).phase = 1#4 := rfl
@[simp] theorem acceptRead_idx (s : State) : (acceptRead s).idx = 0#6 := rfl
@[simp] theorem acceptRead_cnt (s : State) : (acceptRead s).cnt = 0#32 := rfl
@[simp] theorem acceptRead_pdl (s : State) : (acceptRead s).pdl = Vector.replicate 41 0#16 := rfl
@[simp] theorem acceptRead_pdh (s : State) : (acceptRead s).pdh = Vector.replicate 41 0#16 := rfl
@[simp] theorem acceptRead_thresh (s : State) : (acceptRead s).thresh = 0#16 := rfl
@[simp] theorem acceptRead_frame (s : State) : (acceptRead s).frame = 0#40 := rfl
@[simp] theorem acceptRead_hum (s : State) : (acceptRead s).hum = 0#12 := rfl
@[simp] theorem acceptRead_tmag (s : State) : (acceptRead s).tmag = 0#12 := rfl
@[simp] theorem acceptRead_tempC (s : State) : (acceptRead s).tempC = 0#32 := rfl
@[simp] theorem acceptRead_tempF (s : State) : (acceptRead s).tempF = 0#32 := rfl
@[simp] theorem acceptRead_valid (s : State) : (acceptRead s).valid = false := rfl
@[simp] theorem acceptRead_err (s : State) : (acceptRead s).err = 0#2 := rfl
@[simp] theorem acceptRead_esite (s : State) : (acceptRead s).esite = 0#4 := rfl
@[simp] theorem acceptRead_busy (s : State) : (acceptRead s).busy = true := rfl
@[simp] theorem acceptRead_done (s : State) : (acceptRead s).done = false := rfl
@[simp] theorem acceptRead_illcmd (s : State) : (acceptRead s).illcmd = false := rfl
@[simp] theorem acceptRead_busyrej (s : State) : (acceptRead s).busyrej = false := rfl
@[simp] theorem acceptRead_tneg (s : State) : (acceptRead s).tneg = false := rfl
@[simp] theorem acceptRead_hfb (s : State) : (acceptRead s).hfb = false := rfl
@[simp] theorem acceptRead_tfb (s : State) : (acceptRead s).tfb = false := rfl
@[simp] theorem acceptRead_lineOe (s : State) : (acceptRead s).lineOe = true := rfl
@[simp] theorem acceptRead_lineOut (s : State) : (acceptRead s).lineOut = true := rfl
@[simp] theorem acceptRead_prio (s : State) : (acceptRead s).prio = s.prio := rfl
@[simp] theorem acceptRead_params (s : State) : (acceptRead s).params = s.params := rfl
@[simp] theorem acceptRead_lineIn (s : State) : (acceptRead s).lineIn = s.lineIn := rfl
@[simp] theorem acceptRead_hostData (s : State) : (acceptRead s).hostData = s.hostData := rfl
@[simp] theorem acceptRead_script (s : State) : (acceptRead s).script = s.script := rfl
@[simp] theorem acceptRead_draws (s : State) : (acceptRead s).draws = s.draws := rfl

/-! ### `acceptDecode` -/

@[simp] theorem acceptDecode_phase (s : State) : (acceptDecode s).phase = 8#4 := rfl
@[simp] theorem acceptDecode_idx (s : State) : (acceptDecode s).idx = 0#6 := rfl
@[simp] theorem acceptDecode_cnt (s : State) : (acceptDecode s).cnt = 0#32 := rfl
@[simp] theorem acceptDecode_pdl (s : State) : (acceptDecode s).pdl = s.pdl := rfl
@[simp] theorem acceptDecode_pdh (s : State) : (acceptDecode s).pdh = s.pdh := rfl
@[simp] theorem acceptDecode_thresh (s : State) : (acceptDecode s).thresh = 0#16 := rfl
@[simp] theorem acceptDecode_frame (s : State) : (acceptDecode s).frame = 0#40 := rfl
@[simp] theorem acceptDecode_hum (s : State) : (acceptDecode s).hum = 0#12 := rfl
@[simp] theorem acceptDecode_tmag (s : State) : (acceptDecode s).tmag = 0#12 := rfl
@[simp] theorem acceptDecode_tempC (s : State) : (acceptDecode s).tempC = 0#32 := rfl
@[simp] theorem acceptDecode_tempF (s : State) : (acceptDecode s).tempF = 0#32 := rfl
@[simp] theorem acceptDecode_valid (s : State) : (acceptDecode s).valid = false := rfl
@[simp] theorem acceptDecode_err (s : State) : (acceptDecode s).err = 0#2 := rfl
@[simp] theorem acceptDecode_esite (s : State) : (acceptDecode s).esite = 0#4 := rfl
@[simp] theorem acceptDecode_busy (s : State) : (acceptDecode s).busy = true := rfl
@[simp] theorem acceptDecode_done (s : State) : (acceptDecode s).done = false := rfl
@[simp] theorem acceptDecode_illcmd (s : State) : (acceptDecode s).illcmd = false := rfl
@[simp] theorem acceptDecode_busyrej (s : State) : (acceptDecode s).busyrej = false := rfl
@[simp] theorem acceptDecode_tneg (s : State) : (acceptDecode s).tneg = false := rfl
@[simp] theorem acceptDecode_hfb (s : State) : (acceptDecode s).hfb = false := rfl
@[simp] theorem acceptDecode_tfb (s : State) : (acceptDecode s).tfb = false := rfl
@[simp] theorem acceptDecode_lineOe (s : State) : (acceptDecode s).lineOe = s.lineOe := rfl
@[simp] theorem acceptDecode_lineOut (s : State) : (acceptDecode s).lineOut = s.lineOut := rfl
@[simp] theorem acceptDecode_prio (s : State) : (acceptDecode s).prio = s.prio := rfl
@[simp] theorem acceptDecode_params (s : State) : (acceptDecode s).params = s.params := rfl
@[simp] theorem acceptDecode_lineIn (s : State) : (acceptDecode s).lineIn = s.lineIn := rfl
@[simp] theorem acceptDecode_hostData (s : State) : (acceptDecode s).hostData = s.hostData := rfl
@[simp] theorem acceptDecode_script (s : State) : (acceptDecode s).script = s.script := rfl
@[simp] theorem acceptDecode_draws (s : State) : (acceptDecode s).draws = s.draws := rfl

/-! ### `sampleLine` -/

@[simp] theorem sampleLine_phase (sample : Bool) (s : State) : (sampleLine sample s).phase = s.phase := rfl
@[simp] theorem sampleLine_idx (sample : Bool) (s : State) : (sampleLine sample s).idx = s.idx := rfl
@[simp] theorem sampleLine_cnt (sample : Bool) (s : State) : (sampleLine sample s).cnt = s.cnt := rfl
@[simp] theorem sampleLine_pdl (sample : Bool) (s : State) : (sampleLine sample s).pdl = s.pdl := rfl
@[simp] theorem sampleLine_pdh (sample : Bool) (s : State) : (sampleLine sample s).pdh = s.pdh := rfl
@[simp] theorem sampleLine_thresh (sample : Bool) (s : State) : (sampleLine sample s).thresh = s.thresh := rfl
@[simp] theorem sampleLine_frame (sample : Bool) (s : State) : (sampleLine sample s).frame = s.frame := rfl
@[simp] theorem sampleLine_hum (sample : Bool) (s : State) : (sampleLine sample s).hum = s.hum := rfl
@[simp] theorem sampleLine_tmag (sample : Bool) (s : State) : (sampleLine sample s).tmag = s.tmag := rfl
@[simp] theorem sampleLine_tempC (sample : Bool) (s : State) : (sampleLine sample s).tempC = s.tempC := rfl
@[simp] theorem sampleLine_tempF (sample : Bool) (s : State) : (sampleLine sample s).tempF = s.tempF := rfl
@[simp] theorem sampleLine_valid (sample : Bool) (s : State) : (sampleLine sample s).valid = s.valid := rfl
@[simp] theorem sampleLine_err (sample : Bool) (s : State) : (sampleLine sample s).err = s.err := rfl
@[simp] theorem sampleLine_esite (sample : Bool) (s : State) : (sampleLine sample s).esite = s.esite := rfl
@[simp] theorem sampleLine_busy (sample : Bool) (s : State) : (sampleLine sample s).busy = s.busy := rfl
@[simp] theorem sampleLine_done (sample : Bool) (s : State) : (sampleLine sample s).done = s.done := rfl
@[simp] theorem sampleLine_illcmd (sample : Bool) (s : State) : (sampleLine sample s).illcmd = s.illcmd := rfl
@[simp] theorem sampleLine_busyrej (sample : Bool) (s : State) : (sampleLine sample s).busyrej = s.busyrej := rfl
@[simp] theorem sampleLine_tneg (sample : Bool) (s : State) : (sampleLine sample s).tneg = s.tneg := rfl
@[simp] theorem sampleLine_hfb (sample : Bool) (s : State) : (sampleLine sample s).hfb = s.hfb := rfl
@[simp] theorem sampleLine_tfb (sample : Bool) (s : State) : (sampleLine sample s).tfb = s.tfb := rfl
@[simp] theorem sampleLine_lineOe (sample : Bool) (s : State) : (sampleLine sample s).lineOe = s.lineOe := rfl
@[simp] theorem sampleLine_lineOut (sample : Bool) (s : State) : (sampleLine sample s).lineOut = s.lineOut := rfl
@[simp] theorem sampleLine_prio (sample : Bool) (s : State) : (sampleLine sample s).prio = s.prio := rfl
@[simp] theorem sampleLine_params (sample : Bool) (s : State) : (sampleLine sample s).params = s.params := rfl
@[simp] theorem sampleLine_lineIn (sample : Bool) (s : State) : (sampleLine sample s).lineIn = sample := rfl
@[simp] theorem sampleLine_hostData (sample : Bool) (s : State) : (sampleLine sample s).hostData = s.hostData := rfl
@[simp] theorem sampleLine_script (sample : Bool) (s : State) : (sampleLine sample s).script = s.script := rfl
@[simp] theorem sampleLine_draws (sample : Bool) (s : State) : (sampleLine sample s).draws = s.draws := rfl

/-! ### `resetTick` -/

@[simp] theorem resetTick_phase (s : State) : (resetTick s).phase = 0#4 := rfl
@[simp] theorem resetTick_idx (s : State) : (resetTick s).idx = 0#6 := rfl
@[simp] theorem resetTick_cnt (s : State) : (resetTick s).cnt = 0#32 := rfl
@[simp] theorem resetTick_pdl (s : State) : (resetTick s).pdl = Vector.replicate 41 0#16 := rfl
@[simp] theorem resetTick_pdh (s : State) : (resetTick s).pdh = Vector.replicate 41 0#16 := rfl
@[simp] theorem resetTick_thresh (s : State) : (resetTick s).thresh = 0#16 := rfl
@[simp] theorem resetTick_frame (s : State) : (resetTick s).frame = 0#40 := rfl
@[simp] theorem resetTick_hum (s : State) : (resetTick s).hum = 0#12 := rfl
@[simp] theorem resetTick_tmag (s : State) : (resetTick s).tmag = 0#12 := rfl
@[simp] theorem resetTick_tempC (s : State) : (resetTick s).tempC = 0#32 := rfl
@[simp] theorem resetTick_tempF (s : State) : (resetTick s).tempF = 0#32 := rfl
@[simp] theorem resetTick_valid (s : State) : (resetTick s).valid = false := rfl
@[simp] theorem resetTick_err (s : State) : (resetTick s).err = 0#2 := rfl
@[simp] theorem resetTick_esite (s : State) : (resetTick s).esite = 0#4 := rfl
@[simp] theorem resetTick_busy (s : State) : (resetTick s).busy = false := rfl
@[simp] theorem resetTick_done (s : State) : (resetTick s).done = false := rfl
@[simp] theorem resetTick_illcmd (s : State) : (resetTick s).illcmd = false := rfl
@[simp] theorem resetTick_busyrej (s : State) : (resetTick s).busyrej = false := rfl
@[simp] theorem resetTick_tneg (s : State) : (resetTick s).tneg = false := rfl
@[simp] theorem resetTick_hfb (s : State) : (resetTick s).hfb = false := rfl
@[simp] theorem resetTick_tfb (s : State) : (resetTick s).tfb = false := rfl
@[simp] theorem resetTick_lineOe (s : State) : (resetTick s).lineOe = false := rfl
@[simp] theorem resetTick_lineOut (s : State) : (resetTick s).lineOut = false := rfl
@[simp] theorem resetTick_prio (s : State) : (resetTick s).prio = false := rfl
@[simp] theorem resetTick_params (s : State) : (resetTick s).params = s.params := rfl
@[simp] theorem resetTick_lineIn (s : State) : (resetTick s).lineIn = s.lineIn := rfl
@[simp] theorem resetTick_hostData (s : State) : (resetTick s).hostData = s.hostData := rfl
@[simp] theorem resetTick_script (s : State) : (resetTick s).script = s.script := rfl
@[simp] theorem resetTick_draws (s : State) : (resetTick s).draws = s.draws := rfl

/-! ### `setReading` -/

@[simp] theorem setReading_phase (s : State) : (setReading s).phase = s.phase := rfl
@[simp] theorem setReading_idx (s : State) : (setReading s).idx = s.idx := rfl
@[simp] theorem setReading_cnt (s : State) : (setReading s).cnt = s.cnt := rfl
@[simp] theorem setReading_pdl (s : State) : (setReading s).pdl = s.pdl := rfl
@[simp] theorem setReading_pdh (s : State) : (setReading s).pdh = s.pdh := rfl
@[simp] theorem setReading_thresh (s : State) : (setReading s).thresh = s.thresh := rfl
@[simp] theorem setReading_frame (s : State) : (setReading s).frame = s.frame := rfl
@[simp] theorem setReading_hum (s : State) : (setReading s).hum = BitVec.ofNat 12 (humTenths s.frame) := rfl
@[simp] theorem setReading_tmag (s : State) : (setReading s).tmag = BitVec.ofNat 12 (tempMagnitude s.frame) := rfl
@[simp] theorem setReading_tempC (s : State) : (setReading s).tempC = celsiusTenths s.frame := rfl
@[simp] theorem setReading_tempF (s : State) : (setReading s).tempF = fahrenheitHundredths (celsiusTenths s.frame) := rfl
@[simp] theorem setReading_valid (s : State) : (setReading s).valid = true := rfl
@[simp] theorem setReading_err (s : State) : (setReading s).err = s.err := rfl
@[simp] theorem setReading_esite (s : State) : (setReading s).esite = s.esite := rfl
@[simp] theorem setReading_busy (s : State) : (setReading s).busy = s.busy := rfl
@[simp] theorem setReading_done (s : State) : (setReading s).done = s.done := rfl
@[simp] theorem setReading_illcmd (s : State) : (setReading s).illcmd = s.illcmd := rfl
@[simp] theorem setReading_busyrej (s : State) : (setReading s).busyrej = s.busyrej := rfl
@[simp] theorem setReading_tneg (s : State) : (setReading s).tneg = tempSign s.frame := rfl
@[simp] theorem setReading_hfb (s : State) : (setReading s).hfb = decide (HumFallback s.frame) := rfl
@[simp] theorem setReading_tfb (s : State) : (setReading s).tfb = decide (TempFallback s.frame) := rfl
@[simp] theorem setReading_lineOe (s : State) : (setReading s).lineOe = s.lineOe := rfl
@[simp] theorem setReading_lineOut (s : State) : (setReading s).lineOut = s.lineOut := rfl
@[simp] theorem setReading_prio (s : State) : (setReading s).prio = s.prio := rfl
@[simp] theorem setReading_params (s : State) : (setReading s).params = s.params := rfl
@[simp] theorem setReading_lineIn (s : State) : (setReading s).lineIn = s.lineIn := rfl
@[simp] theorem setReading_hostData (s : State) : (setReading s).hostData = s.hostData := rfl
@[simp] theorem setReading_script (s : State) : (setReading s).script = s.script := rfl
@[simp] theorem setReading_draws (s : State) : (setReading s).draws = s.draws := rfl

end Sys2Proof.Machine
end

