-- ==== Sys2Proof/Laws/Ops.lean ====
section
/-! SUPPORT. One lemma per shared operation: everything it can do. -/

namespace Sys2Proof.Machine

/-- A host write to `CMD` does one of four things (R110). -/
theorem hostCommand_cases (v : Word) (s : State) :
    (s.busy = true ∧ hostCommand v s = setBusyReject s) ∨
    (s.busy = false ∧ v = 1#32 ∧ hostCommand v s = acceptRead s) ∨
    (s.busy = false ∧ v = 2#32 ∧ hostCommand v s = acceptDecode s) ∨
    (s.busy = false ∧ v ≠ 1#32 ∧ v ≠ 2#32 ∧ hostCommand v s = setIllegal s) := by
  unfold hostCommand
  by_cases hb : s.busy = true
  · simp [hb]
  · by_cases h1 : v = 1#32
    · simp [hb, h1]
    · by_cases h2 : v = 2#32 <;> simp [hb, h1, h2]

/-- A host read changes the read data and the count of draws, and nothing else (R62). -/
theorem memRead_frame (addr : Index) (s : State) :
    memRead addr s = { s with hostData := (memRead addr s).hostData, draws := (memRead addr s).draws } := by
  unfold memRead; split <;> rfl

/-- A host read that no rule leaves unspecified returns the view and draws nothing (R62). -/
theorem memRead_defined {addr : Index} {s : State} (h : s.busy = false ∨ ¬ HiddenWhileBusy addr) :
    memRead addr s = { s with hostData := readView addr s } := by
  unfold memRead; rw [if_neg]; rintro ⟨hh, hb⟩; simp_all

/-- A host read that R65 leaves unspecified returns the next free value. -/
theorem memRead_hidden {addr : Index} {s : State} (hb : s.busy = true) (h : HiddenWhileBusy addr) :
    memRead addr s = { s with hostData := Config.freeRead s.draws, draws := s.draws + 1 } := by
  unfold memRead; rw [if_pos ⟨h, hb⟩]

/-- A host write does one of five things (R63). -/
theorem memWrite_cases (addr : Index) (v : Word) (s : State) :
    (addr = 0#8 ∧ memWrite addr v s = hostCommand v s) ∨
    (addr ≠ 0#8 ∧ ¬ addr.InWindow ∧ memWrite addr v s = s) ∨
    (addr.InWindow ∧ s.busy = true ∧ memWrite addr v s = setBusyReject s) ∨
    (∃ i, addr = pdlIndex i ∧ s.busy = false ∧ memWrite addr v s = { s with pdl := s.pdl.set i (storedCount v) }) ∨
    (∃ i, addr = pdhIndex i ∧ s.busy = false ∧ memWrite addr v s = { s with pdh := s.pdh.set i (storedCount v) }) := by
  unfold memWrite
  by_cases h0 : addr = 0#8
  · simp [h0]
  · rw [if_neg h0]
    cases hw : windowPair addr with
    | none => exact .inr (.inl ⟨h0, (windowPair_eq_none_iff addr).1 hw, rfl⟩)
    | some i =>
      have hin : addr.InWindow := by
        by_contra hn; rw [(windowPair_eq_none_iff addr).2 hn] at hw; cases hw
      by_cases hb : s.busy = true
      · exact .inr (.inr (.inl ⟨hin, hb, by simp [hb]⟩))
      · cases hh : windowHigh addr with
        | true => exact .inr (.inr (.inr (.inr ⟨i, eq_pdhIndex_of_windowPair hw hh, by simpa using hb, by simp [hb]⟩)))
        | false => exact .inr (.inr (.inr (.inl ⟨i, eq_pdlIndex_of_windowPair hw hh, by simpa using hb, by simp [hb]⟩)))

/-- A write to a `PDL` index while idle stores the entry (R63). -/
theorem memWrite_pdlIndex {i : Pair} {v : Word} {s : State} (hb : s.busy = false) :
    memWrite (pdlIndex i) v s = { s with pdl := s.pdl.set i (storedCount v) } := by
  have h0 : pdlIndex i ≠ 0#8 := fun h => by have := pdlIndex_toNat i; rw [h, BitVec.toNat_ofNat] at this; omega
  simp [memWrite, h0, hb]

/-- A write to a `PDH` index while idle stores the entry (R63). -/
theorem memWrite_pdhIndex {i : Pair} {v : Word} {s : State} (hb : s.busy = false) :
    memWrite (pdhIndex i) v s = { s with pdh := s.pdh.set i (storedCount v) } := by
  have h0 : pdhIndex i ≠ 0#8 := fun h => by have := pdhIndex_toNat i; rw [h, BitVec.toNat_ofNat] at this; omega
  simp [memWrite, h0, hb]

/-- A write to a duration entry while busy sets `BUSYREJ` and nothing else (R63). -/
theorem memWrite_window_busy {addr : Index} {v : Word} {s : State} (h : addr.InWindow) (hb : s.busy = true) :
    memWrite addr v s = setBusyReject s := by
  have h0 : addr ≠ 0#8 := by rintro rfl; exact absurd h.1 (by decide)
  obtain ⟨i, rfl | rfl⟩ := pdlIndex_or_pdhIndex_of_inWindow h <;> simp [memWrite, h0, hb]

/-- A tick of a timed phase ends the phase or counts (R131, R132, R134). -/
theorem waitTicks_cases (n : BitVec 32) (leave : State → State) (s : State) :
    (n.toNat ≤ s.cnt.toNat + 1 ∧ waitTicks n leave s = leave { s with cnt := 0#32 }) ∨
    (s.cnt.toNat + 1 < n.toNat ∧ waitTicks n leave s = { s with cnt := s.cnt + 1#32 }) := by
  unfold waitTicks
  by_cases h : n.toNat ≤ s.cnt.toNat + 1
  · simp [h]
  · exact .inr ⟨by omega, by simp [h]⟩

/-- A legal pair index names its pair (R22). -/
theorem pairOf_eq_some {idx : BitVec 6} (h : idx.toNat ≤ 40) : pairOf idx = some ⟨idx.toNat, by omega⟩ := by
  unfold pairOf; rw [dif_pos (by omega)]

/-- A pair that an index names has the index's number. -/
theorem val_of_pairOf {idx : BitVec 6} {i : Pair} (h : pairOf idx = some i) : i.val = idx.toNat := by
  unfold pairOf at h; split at h <;> simp_all [Fin.ext_iff]

/-- An index names no pair exactly when it is above 40 (R22). -/
theorem pairOf_eq_none_iff (idx : BitVec 6) : pairOf idx = none ↔ 40 < idx.toNat := by
  unfold pairOf; split <;> simp <;> omega

/-- READY_WAIT does one of three things (R140). -/
theorem execReadyWait_cases (s : State) :
    (s.lineIn = false ∧ execReadyWait s = .next { s with idx := 0#6, phase := 6#4 }) ∨
    (s.lineIn = true ∧ s.cnt = s.params.maxCount.setWidth 32 ∧ execReadyWait s = .next (raiseTimeout 5 s)) ∨
    (s.lineIn = true ∧ s.cnt ≠ s.params.maxCount.setWidth 32 ∧ execReadyWait s = .next { s with cnt := s.cnt + 1#32 }) := by
  unfold execReadyWait
  by_cases hs : s.lineIn = false
  · simp [hs]
  · by_cases hc : s.cnt = s.params.maxCount.setWidth 32 <;> simp [hs, hc]

/-- CAP_LOW does one of three things, or stops on a pair that does not exist (R141). -/
theorem execCapLow_cases (s : State) :
    (s.lineIn = true ∧ execCapLow s = .next { s with phase := 7#4 }) ∨
    (s.lineIn = false ∧ 40 < s.idx.toNat ∧ execCapLow s = .fault .noSuchPair) ∨
    (∃ i, pairOf s.idx = some i ∧ s.lineIn = false ∧ s.pdl[i] = s.params.maxCount ∧
      execCapLow s = .next (raiseTimeout 6 s)) ∨
    (∃ i, pairOf s.idx = some i ∧ s.lineIn = false ∧ s.pdl[i] ≠ s.params.maxCount ∧
      execCapLow s = .next { s with pdl := s.pdl.set i (s.pdl[i] + 1#16) }) := by
  unfold execCapLow
  cases hs : s.lineIn with
  | true => simp
  | false =>
    cases hp : pairOf s.idx with
    | none => simp [(pairOf_eq_none_iff s.idx).1 hp]
    | some i => by_cases hm : s.pdl[i] = s.params.maxCount <;> simp_all

/-- The end of a high pulse does one of two things (R142). -/
theorem nextPair_cases (s : State) :
    (s.idx = 40#6 ∧ nextPair s = { s with prio := false, phase := 8#4 }) ∨
    (s.idx ≠ 40#6 ∧ nextPair s = { s with idx := s.idx + 1#6, phase := 6#4 }) := by
  unfold nextPair
  by_cases h : s.idx = 40#6 <;> simp [h]

/-- CAP_HIGH does one of three things, or stops on a pair that does not exist (R142). -/
theorem execCapHigh_cases (s : State) :
    (s.lineIn = false ∧ execCapHigh s = .next (nextPair s)) ∨
    (s.lineIn = true ∧ 40 < s.idx.toNat ∧ execCapHigh s = .fault .noSuchPair) ∨
    (∃ i, pairOf s.idx = some i ∧ s.lineIn = true ∧ s.pdh[i] = s.params.maxCount ∧
      execCapHigh s = .next (raiseTimeout 7 s)) ∨
    (∃ i, pairOf s.idx = some i ∧ s.lineIn = true ∧ s.pdh[i] ≠ s.params.maxCount ∧
      execCapHigh s = .next { s with pdh := s.pdh.set i (s.pdh[i] + 1#16) }) := by
  unfold execCapHigh
  cases hs : s.lineIn with
  | false => simp
  | true =>
    cases hp : pairOf s.idx with
    | none => simp [(pairOf_eq_none_iff s.idx).1 hp]
    | some i => by_cases hm : s.pdh[i] = s.params.maxCount <;> simp_all

/-- CHECK does one of two things (R170). -/
theorem execCheck_cases (s : State) :
    (ChecksumOk s.frame ∧ execCheck s = .next { s with phase := 11#4 }) ∨
    (¬ ChecksumOk s.frame ∧ execCheck s = .next (raiseChecksumMismatch s)) := by
  unfold execCheck
  by_cases h : ChecksumOk s.frame
  · exact .inl ⟨h, by rw [if_pos h]⟩
  · exact .inr ⟨h, by rw [if_neg h]⟩

/-- The counter below a bound goes up by exactly one (R131). -/
theorem cnt_add_one {c n : BitVec 32} (h : c.toNat + 1 < n.toNat) : (c + 1#32).toNat = c.toNat + 1 := by
  have := n.isLt
  rw [BitVec.toNat_add]; simp; omega

/-- A duration below the bound goes up by exactly one (R141 corner case (c)). -/
theorem count_add_one {x m : Count} (h : x.toNat < m.toNat) : (x + 1#16).toNat = x.toNat + 1 := by
  have := m.isLt
  rw [BitVec.toNat_add]; simp; omega

/-- A pair index below 40 goes up by exactly one (R22). -/
theorem idx_add_one {x : BitVec 6} (h : x.toNat < 40) : (x + 1#6).toNat = x.toNat + 1 := by
  rw [BitVec.toNat_add]; simp; omega

/-- The counter has reached the bound when their numbers agree (R140). -/
theorem cnt_eq_maxCount_iff {c : BitVec 32} {m : Count} : c = m.setWidth 32 ↔ c.toNat = m.toNat := by
  rw [← BitVec.toNat_inj, BitVec.toNat_setWidth]
  have := m.isLt
  rw [Nat.mod_eq_of_lt (by omega)]

end Sys2Proof.Machine
end

