-- ==== Sys2Proof/Laws/Operands.lean ====
section
/-! SUPPORT. One lemma per operand function: the number each stands for (R25, R82, R160, R181). -/

namespace Sys2Proof.Machine

/-- The exact sum of the payload lows fits 22 bits (R160, R162). -/
theorem lowSum_le (pdl : PulseFile) : lowSum pdl ≤ 2621400 := by
  have hlen : (payload pdl).length = 40 := by simp [payload]
  have h : ∀ l : List Count, (l.map BitVec.toNat).sum ≤ 65535 * l.length := by
    intro l
    induction l with
    | nil => simp
    | cons a l ih => have := a.isLt; simp only [List.map_cons, List.sum_cons, List.length_cons]; omega
  have := h (payload pdl)
  unfold lowSum; omega

/-- The threshold is the floor of the mean, with nothing lost to the register's width (R160). -/
theorem thresholdOf_toNat (pdl : PulseFile) : (thresholdOf pdl).toNat = lowSum pdl / 40 := by
  have := lowSum_le pdl
  simp only [thresholdOf, BitVec.toNat_ofNat]; omega

/-- The bit of pair i is `FRAME[40 - i]` (R82, R161). -/
theorem frameOf_getLsbD (thr : Count) (pdh : PulseFile) (i : Pair) (h : 0 < i.val) :
    (frameOf thr pdh).getLsbD (40 - i.val) = bitOf thr pdh[i] := by
  unfold frameOf
  rw [BitVec.getLsbD_ofFnLE, dif_pos (by omega)]
  have : (40 - (40 - i.val)) = i.val := by omega
  simp [this]

/-- The sum of the payload lows is the sum over pairs 1 to 40 (R160). -/
theorem lowSum_eq_sum (pdl : PulseFile) : lowSum pdl = ∑ i : Fin 40, pdl[i.succ].toNat := by
  have : payload pdl = List.ofFn (fun i : Fin 40 => pdl[i.succ]) := by
    apply List.ext_getElem
    · simp [payload]
    · intro n h1 h2; simp only [payload, List.getElem_drop, List.getElem_ofFn]; simp [Nat.add_comm]
  rw [lowSum, this, List.map_ofFn, List.sum_ofFn]; rfl

/-- Two frames with the same bit for every payload pair are the same (R82). -/
theorem frame_ext {f g : Frame} (h : ∀ i : Pair, 0 < i.val → f.getLsbD (40 - i.val) = g.getLsbD (40 - i.val)) :
    f = g := by
  apply BitVec.eq_of_getLsbD_eq
  intro j hj
  have := h ⟨40 - j, by omega⟩ (by simp; omega)
  simpa [show 40 - (40 - j) = j by omega] using this

/-- A byte of the frame is a digit of the frame's number in base 256 (R25). -/
theorem frameByte_toNat (f : Frame) (k : Fin 5) : (frameByte f k).toNat = f.toNat / 2 ^ (32 - 8 * k.val) % 256 := by
  simp [frameByte, BitVec.extractLsb'_toNat, Nat.shiftRight_eq_div_pow]

/-- The humidity in tenths is at most 2550, so it fits `HUM` (R183). -/
theorem humTenths_le (f : Frame) : humTenths f ≤ 2550 := by
  have := (frameByte f 0).isLt
  have := (frameByte f 1).isLt
  unfold humTenths
  by_cases h : HumFallback f <;> simp only [h, if_true, if_false] <;> simp [HumFallback, humWord] at h ⊢ <;> omega

/-- The temperature magnitude is at most 2550, so it fits `TMAG` (R183). -/
theorem tempMagnitude_le (f : Frame) : tempMagnitude f ≤ 2550 := by
  have := (frameByte f 2).isLt
  have := (frameByte f 3).isLt
  unfold tempMagnitude
  by_cases h : TempFallback f <;> simp only [h, if_true, if_false] <;> simp [TempFallback, tempWord] at h ⊢ <;> omega

/-- The sign flag is set when the byte is at least 0x80 (R181). -/
theorem tempSign_iff (f : Frame) : tempSign f = true ↔ 128 ≤ (frameByte f 2).toNat := by
  unfold tempSign
  generalize frameByte f 2 = b
  have := b.isLt
  rw [BitVec.getLsbD, Nat.testBit_eq_decide_div_mod_eq]; simp; omega

/-- `c10` as an integer (R181, R182). -/
theorem celsiusTenths_toInt (f : Frame) :
    (celsiusTenths f).toInt = if tempSign f then -(tempMagnitude f : Int) else tempMagnitude f := by
  have := tempMagnitude_le f
  have h1 : (BitVec.ofNat 32 (tempMagnitude f)).toInt = tempMagnitude f := by
    rw [BitVec.toInt_eq_toNat_of_lt] <;> simp <;> omega
  unfold celsiusTenths
  split
  · rw [BitVec.toInt_neg, h1, Int.bmod_eq_of_le] <;> omega
  · exact h1

/-- The Fahrenheit value as an integer: the 32-bit arithmetic does not overflow (R182). -/
theorem fahrenheitHundredths_toInt (f : Frame) :
    (fahrenheitHundredths (celsiusTenths f)).toInt = 18 * (celsiusTenths f).toInt + 3200 := by
  have h := celsiusTenths_toInt f
  have := tempMagnitude_le f
  have h2 : -2550 ≤ (celsiusTenths f).toInt ∧ (celsiusTenths f).toInt ≤ 2550 := by rw [h]; split <;> omega
  unfold fahrenheitHundredths
  rw [BitVec.toInt_add, BitVec.toInt_mul]
  simp only [BitVec.reduceToInt]
  rw [Int.bmod_eq_of_le (n := 18 * _)] <;> try omega
  rw [Int.bmod_eq_of_le] <;> omega

end Sys2Proof.Machine
end

