-- ==== Sys2Proof/Laws/PerInstr.lean ====
section
/-! SUPPORT. Instruction by instruction: the encoder's word has the format and the fixed fields of the instruction's own row
of spec/opcode_table.json, each field written out here from the table. -/

namespace Sys2Proof.Laws.TableRow

/-- A fixed field of a row: bits `hi` down to `lo` hold `value`. -/
structure Field where
  hi : Nat
  lo : Nat
  value : Nat
  deriving DecidableEq, Repr

/-- The width of a row's format (R80). -/
def width : Instr → Nat
  | .read | .decode | .illegal _ | .busyReject _ => 32
  | .rd _ | .wr _ _ => 41
  | .rdCmd | .rdStatus | .rdThresh | .rdFrameHi | .rdFrameLo => 41
  | .rdHum | .rdTmag | .rdTempC | .rdTempF => 41
  | .wrCmdRead | .wrCmdDecode | .wrPdl _ _ | .wrPdh _ _ | .rdPdl _ | .rdPdh _ => 41
  | .idle | .wakeHigh | .wakeLow | .handover | .settle | .readyWait | .capLow | .capHigh => 4
  | .thresh | .bitdec | .check | .calib => 4
  | .phase12 | .phase13 | .phase14 | .phase15 => 4

/-- A row that reads one index: all 41 bits are fixed. -/
def readOf (idx : Nat) : List Field := [⟨40, 40, 0⟩, ⟨39, 32, idx⟩, ⟨31, 0, 0⟩]

/-- The fixed fields of a row, from the table's masks, matches and source fields. -/
def fixed : Instr → List Field
  | .read => [⟨31, 0, 1⟩]
  | .decode => [⟨31, 0, 2⟩]
  | .illegal _ => []
  | .busyReject _ => []
  | .rd _ => [⟨40, 40, 0⟩, ⟨31, 0, 0⟩]
  | .wr _ _ => [⟨40, 40, 1⟩]
  | .rdCmd => readOf 0x00
  | .rdStatus => readOf 0x01
  | .rdThresh => readOf 0x02
  | .rdFrameHi => readOf 0x03
  | .rdFrameLo => readOf 0x04
  | .rdHum => readOf 0x05
  | .rdTmag => readOf 0x06
  | .rdTempC => readOf 0x07
  | .rdTempF => readOf 0x08
  | .wrCmdRead => [⟨40, 40, 1⟩, ⟨39, 32, 0⟩, ⟨31, 0, 1⟩]
  | .wrCmdDecode => [⟨40, 40, 1⟩, ⟨39, 32, 0⟩, ⟨31, 0, 2⟩]
  | .wrPdl i _ => [⟨40, 40, 1⟩, ⟨39, 32, 0x40 + 2 * i.val⟩]
  | .wrPdh i _ => [⟨40, 40, 1⟩, ⟨39, 32, 0x41 + 2 * i.val⟩]
  | .rdPdl i => readOf (0x40 + 2 * i.val)
  | .rdPdh i => readOf (0x41 + 2 * i.val)
  | .idle => [⟨3, 0, 0⟩]
  | .wakeHigh => [⟨3, 0, 1⟩]
  | .wakeLow => [⟨3, 0, 2⟩]
  | .handover => [⟨3, 0, 3⟩]
  | .settle => [⟨3, 0, 4⟩]
  | .readyWait => [⟨3, 0, 5⟩]
  | .capLow => [⟨3, 0, 6⟩]
  | .capHigh => [⟨3, 0, 7⟩]
  | .thresh => [⟨3, 0, 8⟩]
  | .bitdec => [⟨3, 0, 9⟩]
  | .check => [⟨3, 0, 10⟩]
  | .calib => [⟨3, 0, 11⟩]
  | .phase12 => [⟨3, 0, 12⟩]
  | .phase13 => [⟨3, 0, 13⟩]
  | .phase14 => [⟨3, 0, 14⟩]
  | .phase15 => [⟨3, 0, 15⟩]

/-- The width and the number of a word. -/
def number : TableWord → Nat × Nat
  | .cmd32 opc => (32, opc.toNat)
  | .ht41 w => (41, w.toNat)
  | .ph4 code => (4, code.toNat)

/-- The word has a field's value in its place. -/
abbrev Has (w : Nat) (f : Field) : Prop := w / 2 ^ f.lo % 2 ^ (f.hi + 1 - f.lo) = f.value

/-- The instruction's word has its row's format and every fixed field of its row. -/
def Statement (i : Instr) : Prop :=
  (number (encode i)).1 = width i ∧ ∀ f ∈ fixed i, Has (number (encode i)).2 f

/-- The row READ. -/
theorem read : Statement .read := by
  refine ⟨rfl, ?_⟩
  decide

/-- The row DECODE. -/
theorem decode : Statement .decode := by
  refine ⟨rfl, ?_⟩
  decide

/-- The row ILLEGAL. -/
theorem illegal (opc : Word) : Statement (.illegal opc) := by
  refine ⟨rfl, ?_⟩
  simp [fixed]

/-- The row BUSY_REJECT. -/
theorem busyReject (opc : Word) : Statement (.busyReject opc) := by
  refine ⟨rfl, ?_⟩
  simp [fixed]

/-- The row RD. -/
theorem rd (idx : Index) : Statement (.rd idx) := by
  refine ⟨rfl, ?_⟩
  have := idx.isLt
  simp only [encode, number, fixed, Has, ht41_toNat, List.forall_mem_cons, Bool.toNat_false, BitVec.toNat_ofNat]
  refine ⟨?_, ?_, by simp⟩ <;> simp <;> omega

/-- The row WR. -/
theorem wr (idx : Index) (data : Word) : Statement (.wr idx data) := by
  refine ⟨rfl, ?_⟩
  have := idx.isLt
  have := data.isLt
  simp only [encode, number, fixed, Has, ht41_toNat, List.forall_mem_cons, Bool.toNat_true]
  refine ⟨?_, by simp⟩
  simp; omega

/-- The row RD_CMD. -/
theorem rdCmd : Statement .rdCmd := by
  refine ⟨rfl, ?_⟩
  decide

/-- The row RD_STATUS. -/
theorem rdStatus : Statement .rdStatus := by
  refine ⟨rfl, ?_⟩
  decide

/-- The row RD_THRESH. -/
theorem rdThresh : Statement .rdThresh := by
  refine ⟨rfl, ?_⟩
  decide

/-- The row RD_FRAME_HI. -/
theorem rdFrameHi : Statement .rdFrameHi := by
  refine ⟨rfl, ?_⟩
  decide

/-- The row RD_FRAME_LO. -/
theorem rdFrameLo : Statement .rdFrameLo := by
  refine ⟨rfl, ?_⟩
  decide

/-- The row RD_HUM. -/
theorem rdHum : Statement .rdHum := by
  refine ⟨rfl, ?_⟩
  decide

/-- The row RD_TMAG. -/
theorem rdTmag : Statement .rdTmag := by
  refine ⟨rfl, ?_⟩
  decide

/-- The row RD_TEMP_C. -/
theorem rdTempC : Statement .rdTempC := by
  refine ⟨rfl, ?_⟩
  decide

/-- The row RD_TEMP_F. -/
theorem rdTempF : Statement .rdTempF := by
  refine ⟨rfl, ?_⟩
  decide

/-- The row WR_CMD__READ. -/
theorem wrCmdRead : Statement .wrCmdRead := by
  refine ⟨rfl, ?_⟩
  decide

/-- The row WR_CMD__DECODE. -/
theorem wrCmdDecode : Statement .wrCmdDecode := by
  refine ⟨rfl, ?_⟩
  decide

/-- The row WR_PDL_i. -/
theorem wrPdl (i : Pair) (data : Word) : Statement (.wrPdl i data) := by
  refine ⟨rfl, ?_⟩
  have := data.isLt
  simp only [encode, number, fixed, Has, ht41_toNat, List.forall_mem_cons, Bool.toNat_true, pdlIndex_toNat]
  refine ⟨?_, ?_, by simp⟩ <;> simp <;> omega

/-- The row WR_PDH_i. -/
theorem wrPdh (i : Pair) (data : Word) : Statement (.wrPdh i data) := by
  refine ⟨rfl, ?_⟩
  have := data.isLt
  simp only [encode, number, fixed, Has, ht41_toNat, List.forall_mem_cons, Bool.toNat_true, pdhIndex_toNat]
  refine ⟨?_, ?_, by simp⟩ <;> simp <;> omega

/-- The row RD_PDL_i. -/
theorem rdPdl (i : Pair) : Statement (.rdPdl i) := by
  refine ⟨rfl, ?_⟩
  simp only [encode, number, fixed, readOf, Has, ht41_toNat, List.forall_mem_cons, Bool.toNat_false, pdlIndex_toNat]
  refine ⟨?_, ?_, ?_, by simp⟩ <;> simp <;> omega

/-- The row RD_PDH_i. -/
theorem rdPdh (i : Pair) : Statement (.rdPdh i) := by
  refine ⟨rfl, ?_⟩
  simp only [encode, number, fixed, readOf, Has, ht41_toNat, List.forall_mem_cons, Bool.toNat_false, pdhIndex_toNat]
  refine ⟨?_, ?_, ?_, by simp⟩ <;> simp <;> omega

/-- The row IDLE. -/
theorem idle : Statement .idle := by
  refine ⟨rfl, ?_⟩
  decide

/-- The row WAKE_HIGH. -/
theorem wakeHigh : Statement .wakeHigh := by
  refine ⟨rfl, ?_⟩
  decide

/-- The row WAKE_LOW. -/
theorem wakeLow : Statement .wakeLow := by
  refine ⟨rfl, ?_⟩
  decide

/-- The row HANDOVER. -/
theorem handover : Statement .handover := by
  refine ⟨rfl, ?_⟩
  decide

/-- The row SETTLE. -/
theorem settle : Statement .settle := by
  refine ⟨rfl, ?_⟩
  decide

/-- The row READY_WAIT. -/
theorem readyWait : Statement .readyWait := by
  refine ⟨rfl, ?_⟩
  decide

/-- The row CAP_LOW. -/
theorem capLow : Statement .capLow := by
  refine ⟨rfl, ?_⟩
  decide

/-- The row CAP_HIGH. -/
theorem capHigh : Statement .capHigh := by
  refine ⟨rfl, ?_⟩
  decide

/-- The row THRESH. -/
theorem thresh : Statement .thresh := by
  refine ⟨rfl, ?_⟩
  decide

/-- The row BITDEC. -/
theorem bitdec : Statement .bitdec := by
  refine ⟨rfl, ?_⟩
  decide

/-- The row CHECK. -/
theorem check : Statement .check := by
  refine ⟨rfl, ?_⟩
  decide

/-- The row CALIB. -/
theorem calib : Statement .calib := by
  refine ⟨rfl, ?_⟩
  decide

/-- The row PHASE_12_UNREACHABLE. -/
theorem phase12 : Statement .phase12 := by
  refine ⟨rfl, ?_⟩
  decide

/-- The row PHASE_13_UNREACHABLE. -/
theorem phase13 : Statement .phase13 := by
  refine ⟨rfl, ?_⟩
  decide

/-- The row PHASE_14_UNREACHABLE. -/
theorem phase14 : Statement .phase14 := by
  refine ⟨rfl, ?_⟩
  decide

/-- The row PHASE_15_UNREACHABLE. -/
theorem phase15 : Statement .phase15 := by
  refine ⟨rfl, ?_⟩
  decide

end Sys2Proof.Laws.TableRow
end

