-- ==== Sys2Proof/Laws/Step.lean ====
section
/-! SUPPORT. What one step does, event by event (R70). -/

namespace Sys2Proof.Machine

@[simp] theorem takeEvent_cons {s : State} {e : Event} {rest : List Event} (h : s.script = e :: rest) :
    takeEvent s = (e, { s with script := rest }) := by
  unfold takeEvent; rw [h]

@[simp] theorem takeEvent_nil {s : State} (h : s.script = []) :
    takeEvent s = (.tick false (Config.freeSample s.draws), { s with draws := s.draws + 1 }) := by
  unfold takeEvent; rw [h]

/-- A tick without reset executes the phase of `PHASE` with the tick's sample on the line. -/
theorem onEvent_tick (sample : Bool) (s : State) :
    onEvent (.tick false sample) s = exec (decodePhase s.phase) (sampleLine sample s) := rfl

/-- A tick with reset executes no phase (R230). -/
theorem onEvent_reset (sample : Bool) (s : State) :
    onEvent (.tick true sample) s = .next (resetTick (sampleLine sample s)) := rfl

/-- A write to `CMD` executes the command the value spells (R90, R110). -/
theorem onEvent_command (opc : Word) (s : State) : onEvent (.command opc) s = exec (decodeCmd s.busy opc) s := rfl

/-- A transaction executes the instruction it spells, or is refused (R94 (c)). -/
theorem onEvent_transaction (w : BitVec 41) (s : State) :
    onEvent (.transaction w) s =
      match decodeHt41 w with
      | .ok i => exec i s
      | .error _ => .refused .readDataNotZero := rfl

/-- A step is what the machine does on the next event. -/
theorem step_cons {s : State} {e : Event} {rest : List Event} (h : s.script = e :: rest) :
    step s = onEvent e { s with script := rest } := by
  unfold step; rw [takeEvent_cons h]

/-- With no event in store a step is a tick with a free sample. -/
theorem step_nil {s : State} (h : s.script = []) :
    step s = onEvent (.tick false (Config.freeSample s.draws)) { s with draws := s.draws + 1 } := by
  unfold step; rw [takeEvent_nil h]

/-- A run of zero steps. -/
@[simp] theorem runSteps_zero (s : State) : runSteps 0 s = .next s := rfl

/-- A run starts with the step of its first event. -/
theorem runSteps_succ {k : Nat} {s t : State} (h : step s = .next t) : runSteps (k + 1) s = runSteps k t := by
  rw [runSteps, h]

/-- Two runs in a row are one run. -/
theorem runSteps_add {m k : Nat} {s t : State} (h : runSteps m s = .next t) :
    runSteps (m + k) s = runSteps k t := by
  induction m generalizing s with
  | zero => cases h; rw [Nat.zero_add]
  | succ m ih =>
    rw [Nat.succ_add, runSteps]
    rw [runSteps] at h
    cases hs : step s with
    | next u => rw [hs] at h; exact ih h
    | fault r => rw [hs] at h; cases h
    | refused r => rw [hs] at h; cases h

/-- Runs of this model are the host's runs of its core. -/
theorem runSteps_eq_core_run (k : Nat) (s : State) : runSteps k s = Sys2Proof.core.run k s := by
  induction k generalizing s with
  | zero => rfl
  | succ k ih =>
    have hs : Sys2Proof.core.step s = step s := rfl
    simp only [runSteps, Host.Core.run, hs]
    cases step s with
    | next t => exact ih t
    | fault r => rfl
    | refused r => rfl

/-- Every host write to a word index is the write of R63, whichever row its word belongs to. -/
theorem exec_decodeWrite (idx : Index) (data : Word) (s : State) :
    exec (decodeWrite idx data) s = .next (memWrite idx data s) := by
  unfold decodeWrite
  cases hw : windowPair idx with
  | some i =>
    cases hh : windowHigh idx with
    | true => rw [eq_pdhIndex_of_windowPair hw hh]; rfl
    | false => rw [eq_pdlIndex_of_windowPair hw hh]; rfl
  | none =>
    by_cases h1 : idx = 0x00#8 ∧ data = 1#32
    · obtain ⟨rfl, rfl⟩ := h1; rfl
    · by_cases h2 : idx = 0x00#8 ∧ data = 2#32
      · obtain ⟨rfl, rfl⟩ := h2; rfl
      · simp only [h1, h2, if_false]; rfl

/-- Every host read of a word index is the read of R62, whichever row its word belongs to. -/
theorem exec_decodeRead (idx : Index) (s : State) : exec (decodeRead idx) s = .next (memRead idx s) := by
  unfold decodeRead
  cases hw : windowPair idx with
  | some i =>
    cases hh : windowHigh idx with
    | true => rw [eq_pdhIndex_of_windowPair hw hh]; rfl
    | false => rw [eq_pdlIndex_of_windowPair hw hh]; rfl
  | none => simp only; repeat' split
            all_goals (subst_vars; rfl)

/-- Every value written to `CMD` is the write of R110, whichever row it belongs to. -/
theorem exec_decodeCmd (busy : Bool) (opc : Word) (s : State) :
    exec (decodeCmd busy opc) s = .next (hostCommand opc s) := by
  unfold decodeCmd
  repeat' split
  all_goals (subst_vars; rfl)

/-- Every spelling of a write to `CMD` is the write of R110. -/
theorem exec_of_writesCmd {v : Word} {i : Instr} (h : WritesCmd v i) (s : State) :
    exec i s = .next (hostCommand v s) := by
  obtain rfl | rfl | rfl | ⟨rfl | rfl, rfl⟩ | ⟨rfl | rfl, rfl⟩ := h <;> rfl

/-- Every spelling of a write to a duration entry is dropped while busy (R63, R114). -/
theorem exec_of_writesDuration_busy {v : Word} {i : Instr} {s : State} (h : WritesDuration v i) (hb : s.busy = true) :
    exec i s = .next (setBusyReject s) := by
  have low (k : Pair) : (pdlIndex k).InWindow := by have := pdlIndex_toNat k; exact ⟨by omega, by omega⟩
  have high (k : Pair) : (pdhIndex k).InWindow := by have := pdhIndex_toNat k; exact ⟨by omega, by omega⟩
  obtain ⟨k, rfl | rfl | rfl | rfl⟩ := h
  · exact congrArg Host.Outcome.next (memWrite_window_busy (low k) hb)
  · exact congrArg Host.Outcome.next (memWrite_window_busy (high k) hb)
  · exact congrArg Host.Outcome.next (memWrite_window_busy (low k) hb)
  · exact congrArg Host.Outcome.next (memWrite_window_busy (high k) hb)

end Sys2Proof.Machine
end

