-- ==== Sys2Proof/Tests/Slice0.lean ====
section
/-! SUPPORT. The model's own tests: ill-formed terms refused, words from the spec decoded, single steps with the vectors of
spec/95_test_vectors.md, and for every statement with hypotheses a state and operands that meet them. -/

namespace Sys2Proof.Tests

open Sys2Proof.Machine

/-! ### Ill-formed terms (R90, R91): each check of `Instr.wf` refuses a term -/

theorem test_wf_refuses_illegal_read : (Instr.illegal 1#32).wf = false := by decide
theorem test_wf_refuses_illegal_decode : (Instr.illegal 2#32).wf = false := by decide
theorem test_wf_refuses_rd_of_register : (Instr.rd 0x08#8).wf = false := by decide
theorem test_wf_refuses_rd_in_window : (Instr.rd 0x40#8).wf = false ∧ (Instr.rd 0x91#8).wf = false := by decide
theorem test_wf_refuses_wr_in_window : (Instr.wr 0x40#8 0#32).wf = false ∧ (Instr.wr 0x91#8 0#32).wf = false := by decide
theorem test_wf_refuses_wr_of_command : (Instr.wr 0x00#8 1#32).wf = false ∧ (Instr.wr 0x00#8 2#32).wf = false := by decide

/-! ### Decoding: words written out from the spec -/

/-- R90, bit by bit: OPC is the whole word. -/
theorem test_decode_cmd32_bits :
    decode false (.cmd32 0b00000000000000000000000000000001#32) = .ok .read ∧
    decode false (.cmd32 0b00000000000000000000000000000010#32) = .ok .decode ∧
    decode false (.cmd32 0b00000000000000000000000000000011#32) = .ok (.illegal 3#32) ∧
    decode true (.cmd32 0b00000000000000000000000000000010#32) = .ok (.busyReject 2#32) := by decide

/-- R80, R91, bit by bit: K, then the eight bits of IDXW, then the 32 bits of DATA (vectors H1, H7, H8, H9). -/
theorem test_decode_ht41_bits :
    decode false (.ht41 0b00000000100000000000000000000000000000000#41) = .ok .rdStatus ∧
    decode false (.ht41 0b10100000000010010001101000101011001111000#41) = .ok (.wrPdl 0 0x12345678#32) ∧
    decode false (.ht41 0b11001000111111111111111111111111111111111#41) = .ok (.wrPdh 40 0xFFFFFFFF#32) ∧
    decode false (.ht41 0b11001001000000000000000000000000000000101#41) = .ok (.wr 0x92#8 5#32) := by decide

/-- The numbers that rules R39 and R64 and programs P1 to P5 give. -/
theorem test_decode_register_reads :
    decodeTableWord 48 0x00000000000 = some .rdCmd ∧ decodeTableWord 48 0x00100000000 = some .rdStatus ∧
    decodeTableWord 48 0x00200000000 = some .rdThresh ∧ decodeTableWord 48 0x00300000000 = some .rdFrameHi ∧
    decodeTableWord 48 0x00400000000 = some .rdFrameLo ∧ decodeTableWord 48 0x00500000000 = some .rdHum ∧
    decodeTableWord 48 0x00600000000 = some .rdTmag ∧ decodeTableWord 48 0x00700000000 = some .rdTempC ∧
    decodeTableWord 48 0x00800000000 = some .rdTempF ∧ decodeTableWord 48 0x00900000000 = some (.rd 0x09#8) := by decide

/-- Rows of P1's table, and vectors H2, H5, H9, H17. -/
theorem test_decode_window_and_commands :
    decodeTableWord 48 0x14E00000032 = some (.wrPdl 7 50#32) ∧ decodeTableWord 48 0x14F00000046 = some (.wrPdh 7 70#32) ∧
    decodeTableWord 48 0x04E00000000 = some (.rdPdl 7) ∧ decodeTableWord 48 0x04F00000000 = some (.rdPdh 7) ∧
    decodeTableWord 48 0x10000000001 = some .wrCmdRead ∧ decodeTableWord 48 0x10000000002 = some .wrCmdDecode ∧
    decodeTableWord 48 0x10080000001 = some (.wr 0x00#8 0x80000001#32) ∧
    decodeTableWord 48 0x09200000000 = some (.rd 0x92#8) ∧ decodeTableWord 32 0 = some (.illegal 0#32) := by decide

/-- The phase codes of R21, bit by bit. -/
theorem test_decode_phases :
    [0b0000#4, 0b0001#4, 0b0010#4, 0b0011#4, 0b0100#4, 0b0101#4, 0b0110#4, 0b0111#4].map decodePhase =
      [.idle, .wakeHigh, .wakeLow, .handover, .settle, .readyWait, .capLow, .capHigh] ∧
    [0b1000#4, 0b1001#4, 0b1010#4, 0b1011#4, 0b1100#4, 0b1101#4, 0b1110#4, 0b1111#4].map decodePhase =
      [.thresh, .bitdec, .check, .calib, .phase12, .phase13, .phase14, .phase15] := by decide

/-- R94 (c): a read whose data field is not 0 is rejected, and so are numbers of no format. -/
theorem test_decode_rejects :
    decode false (.ht41 0x00100000001#41) = .error .readDataNotZero ∧ tableWord 16 0 = .error .noSuchFormat ∧
    tableWord 48 0x20000000000 = .error .tooWide := by decide

/-! ### States for the tests -/

/-- The reset state with TESTCFG (R11) and the given MAXCOUNT. -/
def base (m : Count) : State := { State.reset with params := Config.testcfg m }

/-- A run in progress in a phase, with all durations 0, as the rules before the phase leave it. -/
def running (p : PhaseCode) (m : Count) (idx : BitVec 6) (cnt : BitVec 32) (line : Bool) : State :=
  { base m with
    phase := p, busy := p ≠ 0#4, idx := idx, cnt := cnt, lineIn := line
    lineOe := p = 1#4 ∨ p = 2#4 ∨ p = 3#4, lineOut := p = 1#4
    prio := p = 4#4 ∨ p = 5#4 ∨ p = 6#4 ∨ p = 7#4 }

/-- Durations that spell a frame, as `inject_bytes` does with low 50, short 28, long 70 (R97). -/
def injected (f : Frame) (s : State) : State :=
  { s with
    pdl := Vector.replicate 41 50#16
    pdh := Vector.ofFn fun i : Fin 41 => if f.getLsbD (40 - i.val) then 70#16 else 28#16 }

/-- What is to be looked at in the next state. -/
def look {α : Type} (f : State → α) : Result → Option α
  | .next t => some (f t)
  | .fault _ => none
  | .refused _ => none

/-! ### Commands (R110 to R116; vectors of section 2.1) -/

theorem test_read_accepted : look statusWord (exec .read (base 10)) = some 0x00010301#32 := by decide
theorem test_read_rejected : look statusWord (exec .read (running 1 10 0 0 true)) = some 0x00010341#32 := by decide
theorem test_decode_accepted : look statusWord (exec .decode { base 10 with illcmd := true }) = some 0x00080001#32 := by decide
theorem test_illegal : look statusWord (exec (.illegal 3) (base 10)) = some 0x00000020#32 := by decide
theorem test_busyReject : look statusWord (exec (.busyReject 7) (running 1 10 0 0 true)) = some 0x00010341#32 := by decide
theorem test_wrCmdRead : look statusWord (exec .wrCmdRead (base 10)) = some 0x00010301#32 := by decide
theorem test_wrCmdDecode : look statusWord (exec .wrCmdDecode (base 10)) = some 0x00080001#32 := by decide

/-! ### Host accesses (R62, R63) -/

theorem test_rdStatus : look State.hostData (exec .rdStatus (running 5 10 0 0 true)) = some 0x00050081#32 := by decide
theorem test_rdCmd : look State.hostData (exec .rdCmd { base 10 with hostData := 7 }) = some 0#32 := by decide
theorem test_rdThresh : look State.hostData (exec .rdThresh { base 10 with thresh := 50 }) = some 0x32#32 := by decide
theorem test_rdFrameHi :
    look State.hostData (exec .rdFrameHi { base 10 with frame := 0x020A010512 }) = some 0x020A0105#32 := by decide
theorem test_rdFrameLo :
    look State.hostData (exec .rdFrameLo { base 10 with frame := 0x020A010512 }) = some 0x00000012#32 := by decide
theorem test_rdHum : look State.hostData (exec .rdHum { base 10 with hum := 522 }) = some 0x0000020A#32 := by decide
theorem test_rdTmag : look State.hostData (exec .rdTmag { base 10 with tmag := 261 }) = some 0x00000105#32 := by decide
theorem test_rdTempC :
    look State.hostData (exec .rdTempC { base 10 with tempC := -261 }) = some 0xFFFFFEFB#32 := by decide
theorem test_rdTempF :
    look State.hostData (exec .rdTempF { base 10 with tempF := -1498 }) = some 0xFFFFFA26#32 := by decide
theorem test_rd_reserved : look State.hostData (exec (.rd 0x92) { base 10 with hostData := 7 }) = some 0#32 := by decide
theorem test_rdPdl : look State.hostData (exec (.rdPdl 7) (injected 0x020A010512 (base 10))) = some 50#32 := by decide
theorem test_rdPdh : look State.hostData (exec (.rdPdh 7) (injected 0x020A010512 (base 10))) = some 70#32 := by decide
theorem test_wrPdl : look (fun t => t.pdl[0]) (exec (.wrPdl 0 0x12345678) (base 10)) = some 0x5678#16 := by decide
theorem test_wrPdl_busy : look statusWord (exec (.wrPdl 0 80) (running 1 10 0 0 true)) = some 0x00010341#32 := by decide
theorem test_wrPdh : look (fun t => t.pdh[40]) (exec (.wrPdh 40 0xFFFFFFFF) (base 10)) = some 0xFFFF#16 := by decide
theorem test_wr_readOnly : look State.thresh (exec (.wr 0x02 77) (base 10)) = some 0#16 := by decide
theorem test_wr_command : look statusWord (exec (.wr 0x00 0x101) (base 10)) = some 0x00000020#32 := by decide

/-! ### Phases (tables W1, B1 to B8, sections 2.4 to 2.6, programs P1 to P5) -/

theorem test_idle : look statusWord (exec .idle (base 10)) = some 0x00000000#32 := by decide
theorem test_wakeHigh_ends : look statusWord (exec .wakeHigh (running 1 10 0 2 true)) = some 0x00020101#32 := by decide
theorem test_wakeHigh_counts : look State.cnt (exec .wakeHigh (running 1 10 0 1 true)) = some 2#32 := by decide
theorem test_wakeLow_ends : look statusWord (exec .wakeLow (running 2 10 0 1 true)) = some 0x00030101#32 := by decide
theorem test_wakeLow_counts : look State.cnt (exec .wakeLow (running 2 10 0 0 true)) = some 1#32 := by decide
theorem test_handover : look statusWord (exec .handover (running 3 10 0 0 true)) = some 0x00040081#32 := by decide
theorem test_settle_ends : look statusWord (exec .settle (running 4 10 0 1 true)) = some 0x00050081#32 := by decide
theorem test_settle_counts : look State.cnt (exec .settle (running 4 10 0 0 true)) = some 1#32 := by decide
theorem test_readyWait_timeout : look statusWord (exec .readyWait (running 5 5 0 5 true)) = some 0x1400000A#32 := by decide
theorem test_readyWait_ends_at_bound :
    look statusWord (exec .readyWait (running 5 10 0 10 false)) = some 0x00060081#32 := by decide
theorem test_capLow_timeout : look statusWord (exec .capLow (running 6 0 7 3 false)) = some 0x1870000A#32 := by decide
theorem test_capLow_counts : look (fun t => t.pdl[7]) (exec .capLow (running 6 10 7 3 false)) = some 1#16 := by decide
theorem test_capHigh_timeout : look statusWord (exec .capHigh (running 7 0 0 3 true)) = some 0x1C00000A#32 := by decide
theorem test_capHigh_last_pair : look statusWord (exec .capHigh (running 7 10 40 3 false)) = some 0x02880001#32 := by decide
/-- Section 2.4 row 2: 39 lows of 50 and one of 49, and entry 0 does not count. -/
theorem test_thresh_floor :
    look State.thresh (exec .thresh { base 10 with
      pdl := ((Vector.replicate 41 50#16).set 0 9999#16).set 40 49#16 }) = some 49#16 := by decide
theorem test_thresh_largest :
    look State.thresh (exec .thresh { base 10 with pdl := Vector.replicate 41 65535#16 }) = some 65535#16 := by decide
/-- P1's frame. -/
theorem test_bitdec_frame :
    look State.frame (exec .bitdec { injected 0x020A010512 (base 10) with thresh := 50 }) = some 0x020A010512#40 := by decide +kernel
/-- A high duration equal to the threshold is a 1 (R81): all highs 49 against a threshold of 49. -/
theorem test_bitdec_equal_is_one :
    look State.frame (exec .bitdec { base 10 with pdh := Vector.replicate 41 49#16, thresh := 49 }) =
      some 0xFFFFFFFFFF#40 := by decide +kernel
theorem test_check_passes :
    look statusWord (exec .check { running 10 10 0 0 true with frame := 0xFFFFFFFFFC }) = some 0x000B0001#32 := by decide
theorem test_check_mismatch :
    look statusWord (exec .check { running 10 10 0 0 true with frame := 0x020A810512 }) = some 0x00000012#32 := by decide
/-- Section 2.6 row 9. -/
theorem test_calib_negative_fallback :
    look (fun t => (t.tmag, t.tempC, t.tempF)) (exec .calib { running 11 10 0 0 true with frame := 0x03E884E352 }) =
      some (1320#12, 0xFFFFFAD8#32, 0xFFFFAFB0#32) := by decide
/-- Section 2.6 row 4. -/
theorem test_calib_both_fallbacks :
    look (fun t => (statusWord t, t.hum)) (exec .calib { running 11 10 0 0 true with frame := 0x03E904E3D3 }) =
      some (0x00001806#32, 30#12) := by decide
/-- A phase code without a meaning stops. -/
theorem test_phase12_stops : exec .phase12 (base 10) = .fault .phaseWithoutMeaning := rfl

/-! ### Steps: placed words and events -/

theorem test_step_placed_transaction :
    look statusWord (step ((base 10).withFetchWord 48 0x10000000001)) = some 0x00010301#32 := by decide
theorem test_step_placed_phase : look statusWord (step ((base 10).withFetchWord 8 3)) = some 0x00040080#32 := by decide
theorem test_step_refuses_read_with_data :
    step { base 10 with script := [.transaction 0x00100000001] } = .refused .readDataNotZero := rfl
/-- Section 2.8 row 3: a reset in the capture window. -/
theorem test_step_reset :
    look statusWord (step { running 7 10 3 3 true with script := [.tick true true] }) = some 0x00000000#32 := by decide

/-! ### States that meet the hypotheses of the statements -/

/-- The states `running` builds meet the invariant, when the counter is below what its phase allows. -/
theorem running_inv (p : PhaseCode) (m : Count) (idx : BitVec 6) (cnt : BitVec 32) (line : Bool)
    (hp : p.toNat ≤ 11) (hi : idx.toNat ≤ 40) (hz : p.toNat ≤ 5 → idx = 0#6)
    (hw : ∀ n, (running p m idx cnt line).holdTicks = some n → cnt.toNat < n.toNat)
    (hc : 5 ≤ p.toNat → p.toNat ≤ 7 → cnt.toNat ≤ m.toNat) : (running p m idx cnt line).Inv := by
  have hall : ∀ q : PhaseCode, q.toNat ≤ 11 →
      ((q = 1#4 ∨ q = 2#4 ∨ q = 3#4) ↔ 1 ≤ q.toNat ∧ q.toNat ≤ 3) ∧
      ((q = 4#4 ∨ q = 5#4 ∨ q = 6#4 ∨ q = 7#4) ↔ 4 ≤ q.toNat ∧ q.toNat ≤ 7) := by decide
  obtain ⟨h2, h3⟩ := hall p hp
  have hk : ChecksumOk 0#40 := by decide
  have hl : (Config.testcfg m).Legal := by simp [Params.Legal, Config.testcfg]
  exact {
    phase_le := hp
    busy_iff := by simp [running]
    not_busy_and_done := by simp [running, base, State.reset]
    idx_le := hi
    prio_phase := by simp only [running, decide_eq_true_eq]; exact h3.1
    valid_outcome := by simp [running, base, State.reset]
    err_outcome := by simp [running, base, State.reset]
    err_ne_three := by simp [running, base, State.reset]
    esite_values := .inl rfl
    esite_iff := by simp [running, base, State.reset]
    counts_le := fun h5 h7 => ⟨hc h5 h7, by simp [running, base, State.reset]⟩
    lineOe_iff := by simp only [running, decide_eq_true_eq]; exact h2
    valid_checksum := fun _ => hk
    params_legal := hl
    invalid_cleared := fun _ => ⟨rfl, rfl, rfl, rfl, rfl, rfl, rfl⟩
    lineOut_iff := by simp [running]
    cnt_lt := hw
    idx_zero := fun _ h => hz h
    fresh := by simp [running, base, State.reset]
    undecoded := fun _ _ => ⟨rfl, rfl⟩
    calib_checksum := fun _ => hk }

/-- An idle state with TESTCFG. -/
theorem idle_inv (m : Count) : (running 0#4 m 0#6 0#32 false).Inv :=
  running_inv _ _ _ _ _ (by decide) (by decide) (fun _ => rfl) (fun _ h => by simp [State.holdTicks, running] at h) (by simp)

/-- A state in WAKE_HIGH with TESTCFG. -/
theorem wakeHigh_inv (m : Count) (cnt : BitVec 32) (h : cnt.toNat < 3) : (running 1#4 m 0#6 cnt true).Inv :=
  running_inv _ _ _ _ _ (by decide) (by decide) (fun _ => rfl)
    (fun n hn => by simp [State.holdTicks, running, base, Config.testcfg] at hn; subst hn; exact h) (by simp)

/-- A state in WAKE_LOW or SETTLE with TESTCFG. -/
theorem wait_inv (p : PhaseCode) (hp : p = 2#4 ∨ p = 4#4) (m : Count) (cnt : BitVec 32) (h : cnt.toNat < 2) :
    (running p m 0#6 cnt true).Inv := by
  refine running_inv _ _ _ _ _ ?_ (by decide) (fun _ => rfl) (fun n hn => ?_) ?_ <;> rcases hp with rfl | rfl
  all_goals first
    | decide
    | simp
    | (simp [State.holdTicks, running, base, Config.testcfg] at hn; subst hn; exact h)

/-- A state in a phase that does not count ticks, with TESTCFG. -/
theorem other_inv (p : PhaseCode) (m : Count) (idx : BitVec 6) (cnt : BitVec 32) (line : Bool)
    (hp : p ∈ [3#4, 5#4, 6#4, 7#4, 8#4, 9#4, 10#4, 11#4]) (hi : idx.toNat ≤ 40) (hz : p.toNat ≤ 5 → idx = 0#6)
    (hc : cnt.toNat ≤ m.toNat) : (running p m idx cnt line).Inv := by
  refine running_inv _ _ _ _ _ ?_ hi hz (fun n hn => ?_) (fun _ _ => hc)
  all_goals (simp at hp; rcases hp with rfl | rfl | rfl | rfl | rfl | rfl | rfl | rfl)
  all_goals first
    | decide
    | simp [State.holdTicks, running] at hn

/-- What is in store for the coming steps does not matter to the invariant. -/
theorem withScript_inv {s : State} (h : s.Inv) (events : List Event) : ({ s with script := events } : State).Inv :=
  { toDocumented := { h.toDocumented with }
    params_legal := h.params_legal
    invalid_cleared := h.invalid_cleared
    lineOut_iff := h.lineOut_iff
    cnt_lt := h.cnt_lt
    idx_zero := h.idx_zero
    fresh := h.fresh
    undecoded := h.undecoded
    calib_checksum := h.calib_checksum }

theorem witness_DecodeOfEncodeIsTheInstruction :
    ((Instr.rd 0x09#8).wf = true ∧ (Instr.rd 0x3F#8).wf = true ∧ (Instr.rd 0x92#8).wf = true) ∧
    ((Instr.wr 0x00#8 0#32).wf = true ∧ (Instr.wr 0x3F#8 1#32).wf = true ∧ (Instr.wr 0xFF#8 2#32).wf = true) ∧
    ((Instr.illegal 3#32).wf = true ∧ (Instr.illegal 3#32).fitsBusy false = true) ∧
    ((Instr.busyReject 1#32).wf = true ∧ (Instr.busyReject 1#32).fitsBusy true = true) := by decide

theorem witness_EncodeOfDecodeIsTheWord :
    decode true (.cmd32 1#32) = .ok (.busyReject 1#32) ∧ decode false (.ht41 0x19000000000#41) = .ok (.wrPdl 40 0#32) ∧
    decode false (.ph4 15#4) = .ok .phase15 := by decide

/-- Both clauses, at the numbers where they meet. -/
theorem witness_OnlyAReadWithDataIsRejected :
    (∃ x : BitVec 41, TableWord.ht41 0x0FFFFFFFFFF#41 = .ht41 x ∧ x.toNat < 2 ^ 40 ∧ x.toNat % 2 ^ 32 ≠ 0) ∧
    (∀ x : BitVec 41, TableWord.ht41 0x10000000001#41 = .ht41 x → ¬ x.toNat < 2 ^ 40) ∧
    (∀ x : BitVec 41, TableWord.ht41 0x0FF00000000#41 = .ht41 x → x.toNat % 2 ^ 32 = 0) := by
  refine ⟨⟨_, rfl, by decide, by decide⟩, ?_, ?_⟩
  · intro x h; cases h; decide
  · intro x h; cases h; decide

theorem witness_StepOnATickExecutesThePhase :
    ({ base 10 with script := [.tick false true] } : State).script = .tick false true :: [] ∧ (base 10).script = [] :=
  ⟨rfl, rfl⟩

theorem witness_StepOnAHostAccessExecutesTheDecodedWord :
    decode (base 10).busy (.ht41 0x10000000002#41) = .ok .wrCmdDecode ∧
    decode (base 10).busy (.ht41 0x00100000001#41) = .error .readDataNotZero ∧
    decode (base 10).busy (.cmd32 1#32) = .ok .read ∧
    ({ base 10 with script := [.transaction 0x10000000002, .command 1] } : State).script =
      .transaction 0x10000000002 :: [.command 1] ∧
    ({ base 10 with script := [.command 1] } : State).script = .command 1 :: [] := by
  refine ⟨by decide, by decide, by decide, rfl, rfl⟩

theorem witness_PlacedWordIsRunByTheNextStep :
    (base 10).busy = false ∧ decodeTableWord 48 0x191FFFFFFFF = some (.wrPdh 40 0xFFFFFFFF#32) ∧
    decodeTableWord 8 15 = some .phase15 ∧ decodeTableWord 32 0xFFFFFFFF = some (.illegal 0xFFFFFFFF#32) := by decide

theorem witness_ResetTickWritesEveryElement :
    ({ running 7 10 3 3 true with script := [.tick true true] } : State).script = .tick true true :: [] := rfl

theorem witness_AcceptedReadStartsTheWakeSequence :
    (base 10).busy = false ∧ Instr.read ∈ [Instr.read, .wrCmdRead] ∧ Instr.wrCmdRead ∈ [Instr.read, .wrCmdRead] := by decide

theorem witness_AcceptedDecodeStartsAtThresh :
    (base 10).busy = false ∧ Instr.decode ∈ [Instr.decode, .wrCmdDecode] ∧
    Instr.wrCmdDecode ∈ [Instr.decode, .wrCmdDecode] := by decide

theorem witness_IllegalCommandSetsOnlyIllcmd : (base 10).busy = false ∧ (3#32 : Word) ≠ 1#32 ∧ (3#32 : Word) ≠ 2#32 := by
  decide

theorem witness_WritesWhileBusyAreDropped :
    (running 11 10 40 3 true).busy = true ∧
    Instr.wrPdh 40 0#32 ∈ [Instr.busyReject 0#32, .read, .decode, .illegal 0#32, .wr 0x00#8 0#32, .wrCmdRead, .wrCmdDecode,
      .wrPdl 40 0#32, .wrPdh 40 0#32] := by decide

theorem witness_ReadsDefinedAtAllTimes :
    (Instr.rd 0x09#8).wf = true ∧ (Instr.rd 0x3F#8).wf = true ∧ (Instr.rd 0x92#8).wf = true ∧ (Instr.rd 0xFF#8).wf = true := by
  decide

theorem witness_ReadsOfDecodeDataWhileIdle : (injected 0x020A010512 (base 10)).busy = false := by decide

theorem witness_ReadsOfDecodeDataWhileBusyAreFree :
    (running 8 10 40 3 true).busy = true ∧ Instr.rdPdh 40 ∈ [Instr.rdThresh, .rdFrameHi, .rdFrameLo, .rdPdl 40, .rdPdh 40] := by
  decide

theorem witness_ReadingRegistersReadZeroDuringARun :
    (running 11 10 40 3 true).Inv ∧ (running 11 10 40 3 true).busy = true ∧
    Instr.rdTempF ∈ [Instr.rdHum, .rdTmag, .rdTempC, .rdTempF] :=
  ⟨other_inv _ _ _ _ _ (by decide) (by decide) (by decide) (by decide), by decide, by decide⟩

theorem witness_DurationWritesStoreSixteenBits : (base 10).busy = false ∧ (0 : Pair) ≠ 40 := by decide

/-- The ends of the two ranges of indices. -/
theorem witness_WritesElsewhereAreIgnored :
    (∀ idx ∈ [0x01#8, 0x3F#8, 0x92#8, 0xFF#8], idx ≠ 0x00#8 ∧ (idx.toNat < 0x40 ∨ 0x91 < idx.toNat)) := by decide

theorem witness_DurationReadsReturnTheLastWrite :
    (base 10).busy = false ∧ (∃ t, exec (.wrPdl 40 0x12345678#32) (base 10) = .next t) ∧
    (∃ t, exec (.wrPdh 0 0x12345678#32) (base 10) = .next t) ∧ (40 : Pair) ≠ 0 :=
  ⟨by decide, ⟨_, rfl⟩, ⟨_, rfl⟩, by decide⟩

/-- Both clauses where they meet: with `W = 3` the tick with `CNT = 2` is the last. -/
theorem witness_WakeHighHoldsThenDrivesLow :
    (running 1 10 0 2 true).params.wakeHighTicks.toNat ≤ (running 1 10 0 2 true).cnt.toNat + 1 ∧
    (running 1 10 0 1 true).cnt.toNat + 1 < (running 1 10 0 1 true).params.wakeHighTicks.toNat := by decide

theorem witness_WakeLowHolds :
    (running 2 10 0 1 true).params.wakeLowTicks.toNat ≤ (running 2 10 0 1 true).cnt.toNat + 1 ∧
    (running 2 10 0 0 true).cnt.toNat + 1 < (running 2 10 0 0 true).params.wakeLowTicks.toNat := by decide

theorem witness_SettleDelays :
    (running 4 10 0 1 true).params.settleTicks.toNat ≤ (running 4 10 0 1 true).cnt.toNat + 1 ∧
    (running 4 10 0 0 true).cnt.toNat + 1 < (running 4 10 0 0 true).params.settleTicks.toNat := by decide

/-- The three clauses at the bound. -/
theorem witness_ReadyWaitEndsCountsOrTimesOut :
    (running 5 10 0 10 false).lineIn = false ∧
    ((running 5 10 0 10 true).lineIn = true ∧
      (running 5 10 0 10 true).cnt.toNat = (running 5 10 0 10 true).params.maxCount.toNat) ∧
    ((running 5 10 0 9 true).lineIn = true ∧
      (running 5 10 0 9 true).cnt.toNat < (running 5 10 0 9 true).params.maxCount.toNat) := by decide

/-- The three clauses, at the first and the last pair and at the bound. -/
theorem witness_CapLowEndsCountsOrTimesOut :
    ((running 6 10 0 3 true).idx.toNat = (0 : Pair).val ∧ (running 6 10 0 3 true).lineIn = true) ∧
    ((running 6 0 40 0 false).idx.toNat = (40 : Pair).val ∧ (running 6 0 40 0 false).lineIn = false ∧
      (running 6 0 40 0 false).pdl[(40 : Pair)] = (running 6 0 40 0 false).params.maxCount) ∧
    ((running 6 1 40 0 false).idx.toNat = (40 : Pair).val ∧ (running 6 1 40 0 false).lineIn = false ∧
      (running 6 1 40 0 false).pdl[(40 : Pair)].toNat < (running 6 1 40 0 false).params.maxCount.toNat) := by decide

/-- The four clauses, at pairs 39 and 40 and at the bound. -/
theorem witness_CapHighEndsCountsOrTimesOut :
    ((running 7 10 40 3 false).idx.toNat = (40 : Pair).val ∧ (running 7 10 40 3 false).lineIn = false) ∧
    ((running 7 10 39 3 false).idx.toNat = (39 : Pair).val ∧ (39 : Pair).val < 40 ∧ (running 7 10 39 3 false).lineIn = false) ∧
    ((running 7 0 40 0 true).idx.toNat = (40 : Pair).val ∧ (running 7 0 40 0 true).lineIn = true ∧
      (running 7 0 40 0 true).pdh[(40 : Pair)] = (running 7 0 40 0 true).params.maxCount) ∧
    ((running 7 1 40 0 true).idx.toNat = (40 : Pair).val ∧ (running 7 1 40 0 true).lineIn = true ∧
      (running 7 1 40 0 true).pdh[(40 : Pair)].toNat < (running 7 1 40 0 true).params.maxCount.toNat) := by decide

/-- The first and the last bit of the frame: pair 1 is bit 7 of byte 0, pair 40 is bit 0 of byte 4. -/
theorem witness_BitdecComparesEveryPayloadHigh :
    (0 < (1 : Pair).val ∧ (1 : Pair).val = 8 * (0 : Fin 5).val + (0 : Fin 8).val + 1) ∧
    (0 < (40 : Pair).val ∧ (40 : Pair).val = 8 * (4 : Fin 5).val + (7 : Fin 8).val + 1) := by decide

/-- Section 2.5 rows 7 and 6: one number apart. -/
theorem witness_CheckJudgesTheChecksum :
    (let f := ({ base 10 with frame := 0xFFFFFFFFFC } : State).frame.toNat
     (f / 2 ^ 32 + f / 2 ^ 24 % 256 + f / 2 ^ 16 % 256 + f / 2 ^ 8 % 256) % 256 = f % 256) ∧
    (let f := ({ base 10 with frame := 0xFFFFFFFFFF } : State).frame.toNat
     (f / 2 ^ 32 + f / 2 ^ 24 % 256 + f / 2 ^ 16 % 256 + f / 2 ^ 8 % 256) % 256 ≠ f % 256) := by decide

/-- Both sides of each limit (R181 corner case (a)) and both signs. -/
theorem witness_CalibDerivesTheReading :
    ((frameByte 0x03E904E3D3 0).toNat * 256 + (frameByte 0x03E904E3D3 1).toNat = 1001 ∧
      (frameByte 0x03E904E3D3 2).toNat % 128 * 256 + (frameByte 0x03E904E3D3 3).toNat = 1251) ∧
    ((frameByte 0x03E804E2D1 0).toNat * 256 + (frameByte 0x03E804E2D1 1).toNat = 1000 ∧
      (frameByte 0x03E804E2D1 2).toNat % 128 * 256 + (frameByte 0x03E804E2D1 3).toNat = 1250) ∧
    128 ≤ (frameByte 0x0000800080 2).toNat ∧ ¬ 128 ≤ (frameByte 0xFFFF7FFF7C 2).toNat := by decide

/-- Section 2.6 rows 8 to 12 and 3: every sign with and without the fallback, at the ends of the ranges. -/
theorem witness_ReadingStaysInItsRanges :
    [0x03E884E251#40, 0x03E884E352#40, 0xFFFFFFFFFC#40, 0xFFFF7FFF7C#40, 0x03E804E2D1#40].map
        (fun f => look (fun t => (t.tneg, t.tfb, t.hfb)) (exec .calib { base 10 with frame := f })) =
      [some (true, false, false), some (true, true, false), some (true, true, true), some (false, true, true),
       some (false, false, false)] := by decide

theorem witness_EveryStepKeepsTheInvariant :
    (running 5 10 0 10 true).Inv ∧ (∃ t, step (running 5 10 0 10 true) = .next t) ∧
    (∃ t, step ({ running 5 10 0 10 true with script := [.tick true true] }) = .next t) :=
  ⟨other_inv _ _ _ _ _ (by decide) (by decide) (by decide) (by decide), ⟨_, rfl⟩, ⟨_, rfl⟩⟩

theorem witness_ReachableStatesMeetTheDocumentedInvariants :
    (Config.testcfg 0).Legal ∧ ∃ t,
      runSteps 2 { State.reset with params := Config.testcfg 0, script := [.command 1, .tick false true] } = .next t :=
  ⟨by decide, ⟨_, rfl⟩⟩

theorem witness_GoodStatesNeverFault :
    (running 7 0 40 0 true).Inv ∧
    decode (running 7 0 40 0 true).busy (.ht41 0x00100000001#41) = .error .readDataNotZero :=
  ⟨other_inv _ _ _ _ _ (by decide) (by decide) (by decide) (by decide), by decide⟩

/-- The phases that count ticks, on the last tick and on the one before. -/
theorem witness_TicksFollowTheTransitionTable_waits :
    (running 1 10 0 1 true).Inv ∧ (running 1 10 0 2 true).Inv ∧ (running 2 10 0 0 true).Inv ∧ (running 2 10 0 1 true).Inv ∧
    (running 4 10 0 0 true).Inv ∧ (running 4 10 0 1 true).Inv :=
  ⟨wakeHigh_inv _ _ (by decide), wakeHigh_inv _ _ (by decide), wait_inv _ (.inl rfl) _ _ (by decide),
    wait_inv _ (.inl rfl) _ _ (by decide), wait_inv _ (.inr rfl) _ _ (by decide), wait_inv _ (.inr rfl) _ _ (by decide)⟩

/-- The capture phases below and at the bound, with either sample, and at pairs 39 and 40. -/
theorem witness_TicksFollowTheTransitionTable_capture :
    (∀ line, (running 5 10 0 9 line).Inv ∧ (running 5 10 0 10 line).Inv) ∧
    (∀ line, (running 6 1 40 0 line).Inv ∧ (running 6 0 40 0 line).Inv) ∧
    (∀ line, (running 7 1 40 0 line).Inv ∧ (running 7 0 40 0 line).Inv ∧ (running 7 0 39 0 line).Inv) := by
  refine ⟨fun line => ⟨?_, ?_⟩, fun line => ⟨?_, ?_⟩, fun line => ⟨?_, ?_, ?_⟩⟩ <;>
    exact other_inv _ _ _ _ _ (by decide) (by decide) (by decide) (by decide)

/-- The phases that last one tick; the frame of CHECK may match or not. -/
theorem witness_TicksFollowTheTransitionTable_others :
    (running 0 10 0 0 false).Inv ∧ (running 3 10 0 0 true).Inv ∧ (running 8 10 40 3 true).Inv ∧ (running 9 10 40 3 true).Inv ∧
    (running 10 10 40 3 true).Inv ∧ (running 11 10 40 3 true).Inv ∧ ChecksumOk 0xFFFFFFFFFC ∧ ¬ ChecksumOk 0xFFFFFFFFFF := by
  refine ⟨idle_inv 10, ?_, ?_, ?_, ?_, ?_, by decide, by decide⟩ <;>
    exact other_inv _ _ _ _ _ (by decide) (by decide) (by decide) (by decide)

/-- A timeout in each of the three phases, at the last pair where there is one. -/
theorem witness_TimeoutLeavesNoReading :
    ((running 5 0 0 0 true).Inv ∧ look (fun t => (t.err, t.esite)) (exec .readyWait (running 5 0 0 0 true)) = some (1#2, 5#4)) ∧
    ((running 6 0 40 0 false).Inv ∧ look (fun t => (t.err, t.esite)) (exec .capLow (running 6 0 40 0 false)) = some (1#2, 6#4)) ∧
    ((running 7 0 40 0 true).Inv ∧ look (fun t => (t.err, t.esite)) (exec .capHigh (running 7 0 40 0 true)) = some (1#2, 7#4)) := by
  refine ⟨⟨?_, by decide⟩, ⟨?_, by decide⟩, ⟨?_, by decide⟩⟩ <;>
    exact other_inv _ _ _ _ _ (by decide) (by decide) (by decide) (by decide)

theorem witness_NoRunLeavesTheLineDrivenOrThePriorityUp :
    (Config.testcfg 0).Legal ∧ ∃ t,
      runSteps 2 { State.reset with params := Config.testcfg 0, script := [.command 1, .tick true true] } = .next t ∧
      t.busy = false :=
  ⟨by decide, ⟨_, rfl, rfl⟩⟩

theorem witness_OnlyAnAcceptedCommandLeavesIdle :
    (running 0 10 0 0 false).Inv ∧ (running 0 10 0 0 false).busy = false ∧
    (∃ t, onEvent (.command 1) (running 0 10 0 0 false) = .next t ∧ t.busy = true) ∧
    (∃ t, onEvent (.transaction 0x10000000002) (running 0 10 0 0 false) = .next t ∧ t.busy = true) :=
  ⟨idle_inv 10, by decide, ⟨_, rfl, rfl⟩, ⟨_, rfl, rfl⟩⟩

/-- Each of the three writers writes. -/
theorem witness_LineRegisterWriters :
    look (fun t => (t.lineOe, t.lineOut)) (exec .read (base 10)) = some (true, true) ∧
    look (fun t => (t.lineOe, t.lineOut)) (exec .wakeHigh (running 1 10 0 2 true)) = some (true, false) ∧
    look (fun t => (t.lineOe, t.lineOut)) (exec .handover (running 3 10 0 0 true)) = some (false, false) ∧
    ((base 10).lineOe, (running 1 10 0 2 true).lineOut, (running 3 10 0 0 true).lineOe) = (false, true, true) := by decide

theorem witness_PriorityWriters :
    look State.prio (exec .handover (running 3 10 0 0 true)) = some true ∧ (running 3 10 0 0 true).prio = false ∧
    look State.prio (exec .capHigh (running 7 10 40 3 false)) = some false ∧ (running 7 10 40 3 false).prio = true ∧
    look State.prio (exec .readyWait (running 5 10 0 10 true)) = some false ∧ (running 5 10 0 10 true).prio = true := by decide

theorem witness_ReadingWriters :
    look State.valid (exec .calib (running 11 10 40 3 true)) = some true ∧ (running 11 10 40 3 true).valid = false ∧
    look State.hum (exec .decode { base 10 with hum := 522, valid := true }) = some 0#12 := by decide

theorem witness_DurationWriters :
    look (fun t => t.pdl[40]) (exec .read (injected 0 (base 10))) = some 0#16 ∧ (injected 0 (base 10)).pdl[40] = 50#16 ∧
    look (fun t => t.pdl[40]) (exec .capLow (running 6 10 40 3 false)) = some 1#16 ∧
    look (fun t => t.pdh[0]) (exec .capHigh (running 7 10 0 3 true)) = some 1#16 ∧
    look (fun t => t.pdh[40]) (exec (.wrPdh 40 7#32) (base 10)) = some 7#16 := by decide

theorem witness_ThresholdAndFrameWriters :
    look State.thresh (exec .thresh (injected 0 (base 10))) = some 50#16 ∧ (injected 0 (base 10)).thresh = 0#16 ∧
    look State.frame (exec .read { base 10 with frame := 1 }) = some 0#40 := by decide

theorem witness_ThresholdAndFrameWriters_bitdec :
    look State.frame (exec .bitdec (base 10)) = some 0xFFFFFFFFFF#40 ∧ (base 10).frame = 0#40 := by decide +kernel

theorem witness_StickyFlagWriters :
    look State.illcmd (exec (.illegal 3#32) (base 10)) = some true ∧ (base 10).illcmd = false ∧
    look State.busyrej (exec .read (running 1 10 0 0 true)) = some true ∧
    look State.busyrej (exec (.wrPdh 40 0#32) (running 1 10 0 0 true)) = some true ∧
    look State.busyrej (exec (.wr 0x91#8 0#32) (running 1 10 0 0 true)) = some true ∧
    (running 1 10 0 0 true).busyrej = false ∧
    look (fun t => (t.illcmd, t.busyrej)) (exec .decode { base 10 with illcmd := true, busyrej := true }) =
      some (false, false) := by decide

theorem witness_InstructionsLeaveTheEnvironmentAlone :
    look State.hostData (exec .rdHum { base 10 with hum := 1 }) = some 1#32 ∧
    look State.draws (exec .rdThresh (running 1 10 0 0 true)) = some 1 := by decide

/-- A phase outside capture, and a good state that drives the line. -/
theorem witness_TheSampleMattersInCaptureOnly :
    ¬ (5 ≤ (running 8 10 40 3 true).phase.toNat ∧ (running 8 10 40 3 true).phase.toNat ≤ 7) ∧
    ((running 3 10 0 0 true).Inv ∧ (running 3 10 0 0 true).lineOe = true) ∧
    (∃ t, onEvent (.tick false true) (running 3 10 0 0 true) = .next t) :=
  ⟨by decide, ⟨other_inv _ _ _ _ _ (by decide) (by decide) (by decide) (by decide), by decide⟩, ⟨_, rfl⟩⟩

/-- Two states that differ in pair 0. -/
theorem witness_FrameDependsOnThePayloadAlone :
    let s := base 10
    let s' := { base 10 with pdl := s.pdl.set 0 9#16, pdh := s.pdh.set 0 9#16 }
    (∀ i : Pair, 0 < i.val → s.pdl[i] = s'.pdl[i] ∧ s.pdh[i] = s'.pdh[i]) ∧ s.pdl[(0 : Pair)] ≠ s'.pdl[(0 : Pair)] ∧
    (∃ t u, exec .thresh s = .next t ∧ exec .bitdec t = .next u) ∧
    (∃ t u, exec .thresh s' = .next t ∧ exec .bitdec t = .next u) :=
  ⟨by decide, by decide, ⟨_, _, rfl, rfl⟩, ⟨_, _, rfl, rfl⟩⟩

/-- P1's durations for P1's frame. -/
theorem witness_SynthesisedDurationsDecodeToTheFrame :
    let s := injected 0x020A010512 (base 10)
    ∀ i : Pair, 0 < i.val →
      ((0x020A010512#40).getLsbD (40 - i.val) = true → (∑ k : Fin 40, s.pdl[k.succ].toNat) / 40 ≤ s.pdh[i].toNat) ∧
      ((0x020A010512#40).getLsbD (40 - i.val) = false → s.pdh[i].toNat < (∑ k : Fin 40, s.pdl[k.succ].toNat) / 40) := by
  decide +kernel

theorem witness_DecodedBitsAreMonotone :
    let s := injected 0x020A010512 (base 10)
    let s' := injected 0xFFFFFFFFFF { base 10 with draws := 1 }
    (∀ i : Pair, s'.pdl[i].toNat ≤ s.pdl[i].toNat ∧ s.pdh[i].toNat ≤ s'.pdh[i].toNat) ∧
    s.pdh[(1 : Pair)].toNat < s'.pdh[(1 : Pair)].toNat := by decide +kernel

/-- A frame whose checksum holds, and one whose checksum does not (S1, S3). -/
theorem witness_DecodeRunEndsInAReadingOrAMismatch :
    (let s := { injected 0x020A010512 (base 10) with script := Event.command 2#32 :: ticksOf [true, false, true, false] ++ [] }
     s.busy = false ∧ ChecksumOk (frameOf (thresholdOf s.pdl) s.pdh)) ∧
    (let s := { injected 0x020A010513 (base 10) with script := Event.command 2#32 :: ticksOf [true, false, true, false] ++ [] }
     s.busy = false ∧ ¬ ChecksumOk (frameOf (thresholdOf s.pdl) s.pdh)) := by decide +kernel

/-- With TESTCFG the tick counts where the clauses meet are 2, 3, 5, 6 and 8. -/
theorem witness_WakeWaveformIsAsLongAsTheParametersSay :
    let s := { running 0 10 0 0 false with script := Event.command 1#32 :: ticksOf (List.replicate 9 true) ++ [] }
    (s.Inv ∧ s.busy = false) ∧
    (∀ k ∈ [2, 3, 5, 6, 8], k ≤ (List.replicate 9 true).length) ∧
    (s.params.wakeHighTicks.toNat, s.params.wakeLowTicks.toNat, s.params.settleTicks.toNat) = (3, 2, 2) :=
  ⟨⟨withScript_inv (idle_inv 10) _, by decide⟩, by decide, by decide⟩

/-- Runs at the bound, and of length 1. -/
theorem witness_CaptureRecordsEveryRunLessOne :
    let l : Pair → Nat := fun i => if i.val = 40 then 11 else 1
    let h : Pair → Nat := fun i => if i.val = 0 then 11 else 1
    let s := { running 5 10 0 0 true with
      script := ticksOf (List.replicate 10 true ++ [false] ++ frameSamples l h) ++ [Event.command 1#32] }
    s.phase = 5#4 ∧ s.cnt = 0#32 ∧ 10 ≤ s.params.maxCount.toNat ∧ (∀ i : Pair, s.pdl[i] = 0#16 ∧ s.pdh[i] = 0#16) ∧
    (∀ i : Pair, 1 ≤ l i ∧ l i ≤ s.params.maxCount.toNat + 1 ∧ 1 ≤ h i ∧ h i ≤ s.params.maxCount.toNat + 1) := by decide

theorem witness_EveryTickBringsTheEndNearer :
    (running 7 10 40 3 false).Inv ∧ (running 7 10 40 3 false).busy = true ∧
    (∃ t, onEvent (.tick false false) (running 7 10 40 3 false) = .next t) ∧
    (∃ t, onEvent (.tick true false) (running 7 10 40 3 false) = .next t) ∧
    (∃ t, onEvent (.command 1) (running 7 10 40 3 false) = .next t) :=
  ⟨other_inv _ _ _ _ _ (by decide) (by decide) (by decide) (by decide), by decide, ⟨_, rfl⟩, ⟨_, rfl⟩, ⟨_, rfl⟩⟩

/-- With TESTCFG and MAXCOUNT 0 the bound is 3 + 2 + 1 + 2 + 83 + 4 = 95 ticks. -/
theorem witness_EveryReadRunEndsWithinTheBound :
    let s := { running 0 0 0 0 false with script := Event.command 1#32 :: ticksOf (List.replicate 95 true) ++ [] }
    s.Inv ∧ s.busy = false ∧ s.readBound = 95 ∧ s.readBound ≤ (List.replicate 95 true).length :=
  ⟨withScript_inv (idle_inv 0) _, by decide, by decide, by decide⟩

end Sys2Proof.Tests
end

/-! PROOFS of the statements on rule R6: what a step executes, what an instruction leaves of its environment, and which phases
look at the sample. -/

namespace Sys2Proof.Machine

/-! ### The step executes the next event's instruction (R6, R70) -/

/-- Settles O5: the next event, in store or free, is a tick, and a tick executes the phase of `PHASE`. -/
theorem stepOnATickExecutesThePhase : Obligations.StepOnATickExecutesThePhase := by
  unfold Obligations.StepOnATickExecutesThePhase
  intro s
  refine ⟨fun sample rest hs => ⟨decodePhase s.phase, rfl, ?_⟩, fun hs => ⟨decodePhase s.phase, rfl, ?_⟩⟩
  · rw [step_cons hs, onEvent_tick]; rfl
  · rw [step_nil hs, onEvent_tick]; rfl

/-- A transaction that decodes executes the instruction it spells (R91). -/
theorem onEvent_transaction_of_decode {w : BitVec 41} {i : Instr} {busy : Bool}
    (h : decode busy (.ht41 w) = .ok i) (s : State) : onEvent (.transaction w) s = exec i s := by
  rw [onEvent_transaction, show decodeHt41 w = .ok i from h]

/-- A word that is no transaction is refused (R94 (c)). -/
theorem onEvent_transaction_of_error {w : BitVec 41} {e : DecodeError} {busy : Bool}
    (h : decode busy (.ht41 w) = .error e) (s : State) : onEvent (.transaction w) s = .refused .readDataNotZero := by
  rw [onEvent_transaction, show decodeHt41 w = .error e from h]

/-- A value written to `CMD` executes the instruction it decodes to (R90, R110). -/
theorem onEvent_command_of_decode {opc : Word} {i : Instr} {s : State}
    (h : decode s.busy (.cmd32 opc) = .ok i) : onEvent (.command opc) s = exec i s := by
  rw [onEvent_command, show decodeCmd s.busy opc = i from Except.ok.inj h]

/-- Settles O6: a step is what the machine does on the first event in store, and a host access does what its word
decodes to. -/
theorem stepOnAHostAccessExecutesTheDecodedWord : Obligations.StepOnAHostAccessExecutesTheDecodedWord := by
  unfold Obligations.StepOnAHostAccessExecutesTheDecodedWord
  intro s rest
  refine ⟨fun w i hs hd => ?_, fun w e hs hd => ?_, fun opc i hs hd => ?_⟩
  · rw [step_cons hs, onEvent_transaction_of_decode hd]
  · rw [step_cons hs, onEvent_transaction_of_error hd]
  · rw [step_cons hs]; exact onEvent_command_of_decode hd

/-! ### A word placed for the fetch -/

/-- The decoder reads an instruction from a number exactly when the number is a word of a format and that word decodes
with `BUSY = 0`. -/
theorem decodeTableWord_eq_some_iff {nbits w : Nat} {i : Instr} :
    decodeTableWord nbits w = some i ↔ ∃ tw, tableWord nbits w = .ok tw ∧ decode false tw = .ok i := by
  unfold decodeTableWord
  cases htw : tableWord nbits w with
  | error e => simp
  | ok tw => cases hd : decode false tw <;> simp [Except.toOption, hd]

/-- A number that is a word is placed as that word. -/
theorem withFetchWord_of_tableWord {nbits w : Nat} {tw : TableWord} (h : tableWord nbits w = .ok tw) (s : State) :
    s.withFetchWord nbits w = placeWord tw s := by
  unfold State.withFetchWord; rw [h]

/-- The step after a word was placed executes the instruction the word decodes to, and takes the placed event away again. -/
theorem step_placeWord {s : State} {tw : TableWord} {i : Instr} (h : decode s.busy tw = .ok i) :
    step (placeWord tw s) = exec i { s with phase := (placeWord tw s).phase } := by
  cases tw with
  | cmd32 opc => rw [step_cons rfl]; exact onEvent_command_of_decode h
  | ht41 w => rw [step_cons rfl, onEvent_transaction_of_decode h]; rfl
  | ph4 code =>
    obtain rfl : decodePhase code = i := Except.ok.inj h
    rw [step_cons rfl, onEvent_tick]; rfl

/-- Settles O7: with `BUSY = 0` the table's decoder and the step read the placed word alike. -/
theorem placedWordIsRunByTheNextStep : Obligations.PlacedWordIsRunByTheNextStep := by
  unfold Obligations.PlacedWordIsRunByTheNextStep
  intro s nbits w i hb hi
  obtain ⟨tw, htw, hd⟩ := decodeTableWord_eq_some_iff.1 hi
  rw [withFetchWord_of_tableWord htw]
  exact step_placeWord (by rw [hb]; exact hd)

/-! ### The four kinds of instruction -/

/-- Every instruction is a host read of an index, whose word has `K = 0` and no data, a write to `CMD`, a host write to an
index, or the phase of a code (R21, R90, R91). -/
theorem exec_kinds (i : Instr) :
    (∃ idx, encode i = .ht41 (ht41 false idx 0#32) ∧ ∀ s, exec i s = .next (memRead idx s)) ∨
    (∃ v, ∀ s, exec i s = .next (hostCommand v s)) ∨
    (∃ idx v, ∀ s, exec i s = .next (memWrite idx v s)) ∨
    (∃ code, i = decodePhase code) := by
  cases i with
  | rd | rdCmd | rdStatus | rdThresh | rdFrameHi | rdFrameLo | rdHum | rdTmag | rdTempC | rdTempF | rdPdl | rdPdh =>
    exact .inl ⟨_, rfl, fun _ => rfl⟩
  | read | decode | illegal | busyReject => exact .inr (.inl ⟨_, fun _ => rfl⟩)
  | wr | wrCmdRead | wrCmdDecode | wrPdl | wrPdh => exact .inr (.inr (.inl ⟨_, _, fun _ => rfl⟩))
  | idle => exact .inr (.inr (.inr ⟨0#4, rfl⟩))
  | wakeHigh => exact .inr (.inr (.inr ⟨1#4, rfl⟩))
  | wakeLow => exact .inr (.inr (.inr ⟨2#4, rfl⟩))
  | handover => exact .inr (.inr (.inr ⟨3#4, rfl⟩))
  | settle => exact .inr (.inr (.inr ⟨4#4, rfl⟩))
  | readyWait => exact .inr (.inr (.inr ⟨5#4, rfl⟩))
  | capLow => exact .inr (.inr (.inr ⟨6#4, rfl⟩))
  | capHigh => exact .inr (.inr (.inr ⟨7#4, rfl⟩))
  | thresh => exact .inr (.inr (.inr ⟨8#4, rfl⟩))
  | bitdec => exact .inr (.inr (.inr ⟨9#4, rfl⟩))
  | check => exact .inr (.inr (.inr ⟨10#4, rfl⟩))
  | calib => exact .inr (.inr (.inr ⟨11#4, rfl⟩))
  | phase12 => exact .inr (.inr (.inr ⟨12#4, rfl⟩))
  | phase13 => exact .inr (.inr (.inr ⟨13#4, rfl⟩))
  | phase14 => exact .inr (.inr (.inr ⟨14#4, rfl⟩))
  | phase15 => exact .inr (.inr (.inr ⟨15#4, rfl⟩))

/-! ### What an instruction leaves of its environment (R9, R11, R62, R230) -/

/-- What is no element of R20 in a state: the parameters, the line's input level, the events to come, the host's read
data and the count of draws. -/
def State.environment (s : State) : Params × Bool × List Event × Word × Nat :=
  (s.params, s.lineIn, s.script, s.hostData, s.draws)

/-- Two states have the same environment when they agree field by field. -/
theorem environment_eq_iff {s t : State} :
    t.environment = s.environment ↔ t.params = s.params ∧ t.lineIn = s.lineIn ∧ t.script = s.script ∧
      t.hostData = s.hostData ∧ t.draws = s.draws := by
  simp only [State.environment, Prod.mk.injEq]

theorem hostCommand_environment (v : Word) (s : State) : (hostCommand v s).environment = s.environment := by
  obtain ⟨-, h⟩ | ⟨-, -, h⟩ | ⟨-, -, h⟩ | ⟨-, -, -, h⟩ := hostCommand_cases v s <;> rw [h] <;> rfl

theorem memWrite_environment (addr : Index) (v : Word) (s : State) :
    (memWrite addr v s).environment = s.environment := by
  obtain ⟨-, h⟩ | ⟨-, -, h⟩ | ⟨-, -, h⟩ | ⟨i, -, -, h⟩ | ⟨i, -, -, h⟩ := memWrite_cases addr v s
  · rw [h, hostCommand_environment]
  · rw [h]
  all_goals rw [h]; rfl

theorem waitTicks_environment {leave : State → State} (hl : ∀ s, (leave s).environment = s.environment)
    (n : BitVec 32) (s : State) : (waitTicks n leave s).environment = s.environment := by
  obtain ⟨-, h⟩ | ⟨-, h⟩ := waitTicks_cases n leave s
  · rw [h, hl]; rfl
  · rw [h]; rfl

theorem nextPair_environment (s : State) : (nextPair s).environment = s.environment := by
  obtain ⟨-, h⟩ | ⟨-, h⟩ := nextPair_cases s <;> rw [h] <;> rfl

theorem execReadyWait_environment {s t : State} (h : execReadyWait s = .next t) : t.environment = s.environment := by
  obtain ⟨-, h'⟩ | ⟨-, -, h'⟩ | ⟨-, -, h'⟩ := execReadyWait_cases s <;> rw [h'] at h <;> cases h <;> rfl

theorem execCapLow_environment {s t : State} (h : execCapLow s = .next t) : t.environment = s.environment := by
  obtain ⟨-, h'⟩ | ⟨-, -, h'⟩ | ⟨i, -, -, -, h'⟩ | ⟨i, -, -, -, h'⟩ := execCapLow_cases s <;>
    rw [h'] at h <;> cases h <;> rfl

theorem execCapHigh_environment {s t : State} (h : execCapHigh s = .next t) : t.environment = s.environment := by
  obtain ⟨-, h'⟩ | ⟨-, -, h'⟩ | ⟨i, -, -, -, h'⟩ | ⟨i, -, -, -, h'⟩ := execCapHigh_cases s <;> rw [h'] at h <;> cases h
  · exact nextPair_environment s
  all_goals rfl

theorem execCheck_environment {s t : State} (h : execCheck s = .next t) : t.environment = s.environment := by
  obtain ⟨-, h'⟩ | ⟨-, h'⟩ := execCheck_cases s <;> rw [h'] at h <;> cases h <;> rfl

/-- No phase touches the environment. -/
theorem exec_decodePhase_environment {code : PhaseCode} {s t : State} (h : exec (decodePhase code) s = .next t) :
    t.environment = s.environment := by
  unfold decodePhase at h
  split at h
  case h_1 | h_4 | h_9 | h_10 | h_12 => cases h; rfl  -- IDLE, HANDOVER, THRESH, BITDEC, CALIB
  case h_2 | h_3 | h_5 => cases h; exact waitTicks_environment (fun _ => by rfl) _ s  -- WAKE_HIGH, WAKE_LOW, SETTLE
  case h_6 => exact execReadyWait_environment h
  case h_7 => exact execCapLow_environment h
  case h_8 => exact execCapHigh_environment h
  case h_11 => exact execCheck_environment h
  case h_13 | h_14 | h_15 | h_16 => cases h  -- the codes 12 to 15 have no next state

/-- An instruction is a host read, or it leaves the whole environment as it was. -/
theorem exec_read_or_environment {i : Instr} {s t : State} (h : exec i s = .next t) :
    (∃ idx, encode i = .ht41 (ht41 false idx 0#32) ∧ t = memRead idx s) ∨ t.environment = s.environment := by
  obtain ⟨idx, henc, hx⟩ | ⟨v, hx⟩ | ⟨idx, v, hx⟩ | ⟨code, rfl⟩ := exec_kinds i
  · rw [hx] at h; cases h; exact .inl ⟨idx, henc, rfl⟩
  · rw [hx] at h; cases h; exact .inr (hostCommand_environment v s)
  · rw [hx] at h; cases h; exact .inr (memWrite_environment idx v s)
  · exact .inr (exec_decodePhase_environment h)

/-- Settles O51: a host read changes the read data and the count of draws alone, and no other instruction changes
anything of the environment. -/
theorem instructionsLeaveTheEnvironmentAlone : Obligations.InstructionsLeaveTheEnvironmentAlone := by
  unfold Obligations.InstructionsLeaveTheEnvironmentAlone
  intro i s t h
  obtain ⟨idx, henc, rfl⟩ | henv := exec_read_or_environment h
  · have hframe := memRead_frame idx s
    exact ⟨by rw [hframe], by rw [hframe], by rw [hframe], fun _ => ⟨idx, henc, hframe⟩⟩
  · obtain ⟨hparams, hline, hscript, hdata, hdraws⟩ := environment_eq_iff.1 henv
    refine ⟨hparams, hline, hscript, fun hchanged => ?_⟩
    exact hchanged.elim (absurd hdata) (absurd hdraws)

/-! ### Which phases look at the sample (R6, R130 to R134, R249) -/

/-- The instruction does not look at the line: with another sample it does the same and leaves that sample on the line. -/
def IgnoresSample (i : Instr) : Prop :=
  ∀ (s t : State) (b : Bool), exec i s = .next t → exec i (sampleLine b s) = .next (sampleLine b t)

/-- The wait counter does not look at the line: when `leave` does not, no tick of the phase does. -/
theorem waitTicks_sampleLine {leave : State → State} {b : Bool}
    (hl : ∀ s, leave (sampleLine b s) = sampleLine b (leave s)) (n : BitVec 32) (s : State) :
    waitTicks n leave (sampleLine b s) = sampleLine b (waitTicks n leave s) := by
  obtain ⟨hc, h⟩ | ⟨hc, h⟩ := waitTicks_cases n leave s
  · rw [h, ← hl]; exact if_pos hc
  · rw [h]; exact if_neg (by rw [sampleLine_cnt]; omega)

/-- A timed phase ignores the sample when its last tick does. -/
theorem ignoresSample_of_waitTicks {i : Instr} {ticks : Params → BitVec 32} {leave : State → State}
    (hi : ∀ s, exec i s = .next (waitTicks (ticks s.params) leave s))
    (hl : ∀ b s, leave (sampleLine b s) = sampleLine b (leave s)) : IgnoresSample i := by
  intro s t b h
  rw [hi] at h; cases h
  rw [hi, sampleLine_params, waitTicks_sampleLine (hl b)]

theorem ignoresSample_check : IgnoresSample .check := by
  intro s t b h
  obtain ⟨hok, h'⟩ | ⟨hok, h'⟩ := execCheck_cases s <;> rw [exec, h'] at h <;> cases h
  · exact congrArg Host.Outcome.next (if_pos hok)
  · exact congrArg Host.Outcome.next (if_neg hok)

/-- Every phase but READY_WAIT, CAP_LOW and CAP_HIGH ignores the sample. -/
theorem ignoresSample_decodePhase {code : PhaseCode} (hcode : ¬ (5 ≤ code.toNat ∧ code.toNat ≤ 7)) :
    IgnoresSample (decodePhase code) := by
  unfold decodePhase
  split
  case h_1 | h_4 | h_9 | h_10 | h_12 => intro s t b h; cases h; rfl  -- IDLE, HANDOVER, THRESH, BITDEC, CALIB
  case h_2 => exact ignoresSample_of_waitTicks (ticks := Params.wakeHighTicks) (fun _ => rfl) (fun _ _ => rfl)
  case h_3 => exact ignoresSample_of_waitTicks (ticks := Params.wakeLowTicks) (fun _ => rfl) (fun _ _ => rfl)
  case h_5 => exact ignoresSample_of_waitTicks (ticks := Params.settleTicks) (fun _ => rfl) (fun _ _ => rfl)
  case h_6 | h_7 | h_8 => omega  -- READY_WAIT, CAP_LOW, CAP_HIGH
  case h_11 => exact ignoresSample_check
  case h_13 | h_14 | h_15 | h_16 => intro s t b h; cases h  -- the codes 12 to 15 have no next state

/-- Settles O52: by R43 (j) a good state that drives the line is in WAKE_HIGH, WAKE_LOW or HANDOVER, so in both cases the
phase is one that ignores the sample. -/
theorem theSampleMattersInCaptureOnly : Obligations.TheSampleMattersInCaptureOnly := by
  unfold Obligations.TheSampleMattersInCaptureOnly
  intro s t a b hphase h
  have hcode : ¬ (5 ≤ s.phase.toNat ∧ s.phase.toNat ≤ 7) := by
    obtain hout | ⟨hinv, hdriven⟩ := hphase
    · exact hout
    · have := hinv.lineOe_iff.1 hdriven
      omega
  rw [onEvent_tick] at h ⊢
  exact ignoresSample_decodePhase hcode (sampleLine a s) t b h

end Sys2Proof.Machine

/-! PROOFS of the statements on the state (10_state.md), part 1: everything an instruction can do, and who writes what
(R23 to R37). -/

namespace Sys2Proof.Machine

/-! ### Everything a host access can do (R62, R63, R110 to R115) -/

/-- What an instruction of the host does in a state: the next state, the writes that lead there, and the value of `BUSY`
under which they do. -/
inductive HostEffect (i : Instr) (s : State) : State → Prop
  /-- A read: the host port alone changes (R62). -/
  | read (d : Word) (n : Nat) : HostEffect i s { s with hostData := d, draws := n }
  /-- A write to an index that stores nothing (R63). -/
  | ignored : HostEffect i s s
  /-- R113. -/
  | illegal {v : Word} (hw : WritesCmd v i) (hb : s.busy = false) (h1 : v ≠ 1#32) (h2 : v ≠ 2#32) :
      HostEffect i s (setIllegal s)
  /-- R63 and R114. -/
  | rejected {v : Word} (hw : WritesCmd v i ∨ WritesDuration v i) (hb : s.busy = true) : HostEffect i s (setBusyReject s)
  /-- R111. -/
  | acceptedRead (hw : WritesCmd 1#32 i) (hb : s.busy = false) : HostEffect i s (acceptRead s)
  /-- R112. -/
  | acceptedDecode (hw : WritesCmd 2#32 i) (hb : s.busy = false) : HostEffect i s (acceptDecode s)
  /-- R63, an even index of the window. -/
  | storedLow (k : Pair) (v : Word) (hi : i = .wrPdl k v ∨ i = .wr (pdlIndex k) v) (hb : s.busy = false) :
      HostEffect i s { s with pdl := s.pdl.set k (storedCount v) }
  /-- R63, an odd index of the window. -/
  | storedHigh (k : Pair) (v : Word) (hi : i = .wrPdh k v ∨ i = .wr (pdhIndex k) v) (hb : s.busy = false) :
      HostEffect i s { s with pdh := s.pdh.set k (storedCount v) }

theorem hostEffect_memRead (i : Instr) (addr : Index) (s : State) : HostEffect i s (memRead addr s) := by
  rw [memRead_frame]; exact .read _ _

theorem hostEffect_hostCommand {v : Word} {i : Instr} (hw : WritesCmd v i) (s : State) :
    HostEffect i s (hostCommand v s) := by
  obtain ⟨hb, h⟩ | ⟨hb, rfl, h⟩ | ⟨hb, rfl, h⟩ | ⟨hb, h1, h2, h⟩ := hostCommand_cases v s <;> rw [h]
  · exact .rejected (.inl hw) hb
  · exact .acceptedRead hw hb
  · exact .acceptedDecode hw hb
  · exact .illegal hw hb h1 h2

/-- A write through the row WR, whichever index it names. -/
theorem hostEffect_memWrite (idx : Index) (v : Word) (s : State) : HostEffect (.wr idx v) s (memWrite idx v s) := by
  obtain ⟨rfl, h⟩ | ⟨-, -, h⟩ | ⟨hin, hb, h⟩ | ⟨k, rfl, hb, h⟩ | ⟨k, rfl, hb, h⟩ := memWrite_cases idx v s <;> rw [h]
  · exact hostEffect_hostCommand (.inr (.inr (.inl rfl))) s
  · exact .ignored
  · obtain ⟨k, rfl | rfl⟩ := pdlIndex_or_pdhIndex_of_inWindow hin
    · exact .rejected (.inr ⟨k, .inr (.inr (.inl rfl))⟩) hb
    · exact .rejected (.inr ⟨k, .inr (.inr (.inr rfl))⟩) hb
  · exact .storedLow k v (.inr rfl) hb
  · exact .storedHigh k v (.inr rfl) hb

theorem hostEffect_wrPdl {k : Pair} {v : Word} {s t : State} (h : exec (.wrPdl k v) s = .next t) :
    HostEffect (.wrPdl k v) s t := by
  have hw : WritesDuration v (.wrPdl k v) := ⟨k, .inl rfl⟩
  cases hb : s.busy with
  | true => rw [exec_of_writesDuration_busy hw hb] at h; cases h; exact .rejected (.inr hw) hb
  | false => rw [exec, execWrPdl, memWrite_pdlIndex hb] at h; cases h; exact .storedLow k v (.inl rfl) hb

theorem hostEffect_wrPdh {k : Pair} {v : Word} {s t : State} (h : exec (.wrPdh k v) s = .next t) :
    HostEffect (.wrPdh k v) s t := by
  have hw : WritesDuration v (.wrPdh k v) := ⟨k, .inr (.inl rfl)⟩
  cases hb : s.busy with
  | true => rw [exec_of_writesDuration_busy hw hb] at h; cases h; exact .rejected (.inr hw) hb
  | false => rw [exec, execWrPdh, memWrite_pdhIndex hb] at h; cases h; exact .storedHigh k v (.inl rfl) hb

/-! ### Everything a phase can do (R130 to R142, R160 to R181) -/

/-- What the instruction of a phase does in a state, with the condition under which it does. -/
inductive PhaseEffect : Instr → State → State → Prop
  | idle {s : State} : PhaseEffect .idle s s
  | wakeHighCounts {s : State} (hc : s.cnt.toNat + 1 < s.params.wakeHighTicks.toNat) :
      PhaseEffect .wakeHigh s { s with cnt := s.cnt + 1#32 }
  | wakeHighEnds {s : State} (hc : s.params.wakeHighTicks.toNat ≤ s.cnt.toNat + 1) :
      PhaseEffect .wakeHigh s { s with cnt := 0#32, lineOut := false, phase := 2#4 }
  | wakeLowCounts {s : State} (hc : s.cnt.toNat + 1 < s.params.wakeLowTicks.toNat) :
      PhaseEffect .wakeLow s { s with cnt := s.cnt + 1#32 }
  | wakeLowEnds {s : State} (hc : s.params.wakeLowTicks.toNat ≤ s.cnt.toNat + 1) :
      PhaseEffect .wakeLow s { s with cnt := 0#32, phase := 3#4 }
  | handover {s : State} : PhaseEffect .handover s { s with prio := true, lineOe := false, cnt := 0#32, phase := 4#4 }
  | settleCounts {s : State} (hc : s.cnt.toNat + 1 < s.params.settleTicks.toNat) :
      PhaseEffect .settle s { s with cnt := s.cnt + 1#32 }
  | settleEnds {s : State} (hc : s.params.settleTicks.toNat ≤ s.cnt.toNat + 1) :
      PhaseEffect .settle s { s with cnt := 0#32, phase := 5#4 }
  | readyWaitEnds {s : State} (hl : s.lineIn = false) : PhaseEffect .readyWait s { s with idx := 0#6, phase := 6#4 }
  | readyWaitTimeout {s : State} (hl : s.lineIn = true) (hc : s.cnt.toNat = s.params.maxCount.toNat) :
      PhaseEffect .readyWait s (raiseTimeout 5 s)
  | readyWaitCounts {s : State} (hl : s.lineIn = true) (hc : s.cnt.toNat ≠ s.params.maxCount.toNat) :
      PhaseEffect .readyWait s { s with cnt := s.cnt + 1#32 }
  | capLowEnds {s : State} (hl : s.lineIn = true) : PhaseEffect .capLow s { s with phase := 7#4 }
  | capLowTimeout {s : State} (i : Pair) (hi : i.val = s.idx.toNat) (hl : s.lineIn = false)
      (hc : s.pdl[i] = s.params.maxCount) : PhaseEffect .capLow s (raiseTimeout 6 s)
  | capLowCounts {s : State} (i : Pair) (hi : i.val = s.idx.toNat) (hl : s.lineIn = false)
      (hc : s.pdl[i] ≠ s.params.maxCount) : PhaseEffect .capLow s { s with pdl := s.pdl.set i (s.pdl[i] + 1#16) }
  | capHighEnds {s : State} (hl : s.lineIn = false) (hi : s.idx = 40#6) :
      PhaseEffect .capHigh s { s with prio := false, phase := 8#4 }
  | capHighNextPair {s : State} (hl : s.lineIn = false) (hi : s.idx ≠ 40#6) :
      PhaseEffect .capHigh s { s with idx := s.idx + 1#6, phase := 6#4 }
  | capHighTimeout {s : State} (i : Pair) (hi : i.val = s.idx.toNat) (hl : s.lineIn = true)
      (hc : s.pdh[i] = s.params.maxCount) : PhaseEffect .capHigh s (raiseTimeout 7 s)
  | capHighCounts {s : State} (i : Pair) (hi : i.val = s.idx.toNat) (hl : s.lineIn = true)
      (hc : s.pdh[i] ≠ s.params.maxCount) : PhaseEffect .capHigh s { s with pdh := s.pdh.set i (s.pdh[i] + 1#16) }
  | thresh {s : State} : PhaseEffect .thresh s { s with thresh := thresholdOf s.pdl, phase := 9#4 }
  | bitdec {s : State} : PhaseEffect .bitdec s { s with frame := frameOf s.thresh s.pdh, phase := 10#4 }
  | checkPasses {s : State} (hk : ChecksumOk s.frame) : PhaseEffect .check s { s with phase := 11#4 }
  | checkFails {s : State} (hk : ¬ ChecksumOk s.frame) : PhaseEffect .check s (raiseChecksumMismatch s)
  | calib {s : State} : PhaseEffect .calib s (endRun (setReading s))

theorem phaseEffect_wakeHigh {s t : State} (h : exec .wakeHigh s = .next t) : PhaseEffect .wakeHigh s t := by
  cases h
  obtain ⟨hc, h⟩ | ⟨hc, h⟩ := waitTicks_cases s.params.wakeHighTicks
    (fun t => { t with lineOut := false, phase := 2#4 }) s <;> rw [h]
  · exact .wakeHighEnds hc
  · exact .wakeHighCounts hc

theorem phaseEffect_wakeLow {s t : State} (h : exec .wakeLow s = .next t) : PhaseEffect .wakeLow s t := by
  cases h
  obtain ⟨hc, h⟩ | ⟨hc, h⟩ := waitTicks_cases s.params.wakeLowTicks (fun t => { t with phase := 3#4 }) s <;> rw [h]
  · exact .wakeLowEnds hc
  · exact .wakeLowCounts hc

theorem phaseEffect_settle {s t : State} (h : exec .settle s = .next t) : PhaseEffect .settle s t := by
  cases h
  obtain ⟨hc, h⟩ | ⟨hc, h⟩ := waitTicks_cases s.params.settleTicks (fun t => { t with phase := 5#4 }) s <;> rw [h]
  · exact .settleEnds hc
  · exact .settleCounts hc

theorem phaseEffect_readyWait {s t : State} (h : exec .readyWait s = .next t) : PhaseEffect .readyWait s t := by
  obtain ⟨hl, h'⟩ | ⟨hl, hc, h'⟩ | ⟨hl, hc, h'⟩ := execReadyWait_cases s <;> rw [exec, h'] at h <;> cases h
  · exact .readyWaitEnds hl
  · exact .readyWaitTimeout hl (cnt_eq_maxCount_iff.1 hc)
  · exact .readyWaitCounts hl (mt cnt_eq_maxCount_iff.2 hc)

theorem phaseEffect_capLow {s t : State} (h : exec .capLow s = .next t) : PhaseEffect .capLow s t := by
  obtain ⟨hl, h'⟩ | ⟨-, -, h'⟩ | ⟨i, hi, hl, hc, h'⟩ | ⟨i, hi, hl, hc, h'⟩ := execCapLow_cases s <;>
    rw [exec, h'] at h <;> cases h
  · exact .capLowEnds hl
  · exact .capLowTimeout i (val_of_pairOf hi) hl hc
  · exact .capLowCounts i (val_of_pairOf hi) hl hc

theorem phaseEffect_capHigh {s t : State} (h : exec .capHigh s = .next t) : PhaseEffect .capHigh s t := by
  obtain ⟨hl, h'⟩ | ⟨-, -, h'⟩ | ⟨i, hi, hl, hc, h'⟩ | ⟨i, hi, hl, hc, h'⟩ := execCapHigh_cases s <;>
    rw [exec, h'] at h <;> cases h
  · obtain ⟨hi, h⟩ | ⟨hi, h⟩ := nextPair_cases s <;> rw [h]
    · exact .capHighEnds hl hi
    · exact .capHighNextPair hl hi
  · exact .capHighTimeout i (val_of_pairOf hi) hl hc
  · exact .capHighCounts i (val_of_pairOf hi) hl hc

theorem phaseEffect_check {s t : State} (h : exec .check s = .next t) : PhaseEffect .check s t := by
  obtain ⟨hk, h'⟩ | ⟨hk, h'⟩ := execCheck_cases s <;> rw [exec, h'] at h <;> cases h
  · exact .checkPasses hk
  · exact .checkFails hk

/-- The four codes without a meaning have no next state (R21, R232). -/
theorem phaseEffect_of_exec {i : Instr} {code : PhaseCode} {s t : State} (hi : encode i = .ph4 code)
    (h : exec i s = .next t) : PhaseEffect i s t := by
  cases i with
  | idle => cases h; exact .idle
  | wakeHigh => exact phaseEffect_wakeHigh h
  | wakeLow => exact phaseEffect_wakeLow h
  | handover => cases h; exact .handover
  | settle => exact phaseEffect_settle h
  | readyWait => exact phaseEffect_readyWait h
  | capLow => exact phaseEffect_capLow h
  | capHigh => exact phaseEffect_capHigh h
  | thresh => cases h; exact .thresh
  | bitdec => cases h; exact .bitdec
  | check => exact phaseEffect_check h
  | calib => cases h; exact .calib
  | phase12 | phase13 | phase14 | phase15 => cases h
  | _ => cases hi

/-- An instruction that answers a next state has the effect of a host access or of a phase. -/
theorem exec_effect {i : Instr} {s t : State} (h : exec i s = .next t) : HostEffect i s t ∨ PhaseEffect i s t := by
  cases i with
  | read => cases h; exact .inl (hostEffect_hostCommand (.inr (.inr (.inr (.inl ⟨.inl rfl, rfl⟩)))) s)
  | wrCmdRead => cases h; exact .inl (hostEffect_hostCommand (.inr (.inr (.inr (.inl ⟨.inr rfl, rfl⟩)))) s)
  | decode => cases h; exact .inl (hostEffect_hostCommand (.inr (.inr (.inr (.inr ⟨.inl rfl, rfl⟩)))) s)
  | wrCmdDecode => cases h; exact .inl (hostEffect_hostCommand (.inr (.inr (.inr (.inr ⟨.inr rfl, rfl⟩)))) s)
  | illegal => cases h; exact .inl (hostEffect_hostCommand (.inl rfl) s)
  | busyReject => cases h; exact .inl (hostEffect_hostCommand (.inr (.inl rfl)) s)
  | wr idx v => cases h; exact .inl (hostEffect_memWrite idx v s)
  | wrPdl => exact .inl (hostEffect_wrPdl h)
  | wrPdh => exact .inl (hostEffect_wrPdh h)
  | rd | rdCmd | rdStatus | rdThresh | rdFrameHi | rdFrameLo | rdHum | rdTmag | rdTempC | rdTempF | rdPdl | rdPdh =>
    cases h; exact .inl (hostEffect_memRead _ _ s)
  | _ => exact .inr (phaseEffect_of_exec rfl h)

/-! ### Who writes what -/

/-- Settles O45: of all effects only an accepted READ, the end of WAKE_HIGH and HANDOVER differ in a line register. -/
theorem lineRegisterWriters : Obligations.LineRegisterWriters := by
  unfold Obligations.LineRegisterWriters
  intro i s t h hne
  obtain he | he := exec_effect h
  · cases he with
    | acceptedRead _ hb => exact .inl ⟨hb, rfl, rfl, rfl, rfl⟩
    | _ => exact absurd rfl hne
  · cases he with
    | wakeHighEnds hc => exact .inr (.inl ⟨rfl, hc, rfl, rfl⟩)
    | handover => exact .inr (.inr ⟨rfl, rfl, rfl⟩)
    | _ => exact absurd rfl hne

/-- Settles O46: no host access touches `PRIO`, and of the phases' effects only HANDOVER, the end of capture and the
timeouts do. -/
theorem priorityWriters : Obligations.PriorityWriters := by
  unfold Obligations.PriorityWriters
  intro i s t h hne
  obtain he | he := exec_effect h
  · cases he <;> exact absurd rfl hne
  · cases he with
    | handover => exact .inl ⟨rfl, rfl⟩
    | capHighEnds hl hi => exact .inr (.inl ⟨rfl, rfl, hl, hi⟩)
    | readyWaitTimeout | capLowTimeout | capHighTimeout => exact .inr (.inr ⟨rfl, by simp, rfl⟩)
    | _ => exact absurd rfl hne

theorem readingCleared_acceptRead (s : State) : (acceptRead s).ReadingCleared := ⟨rfl, rfl, rfl, rfl, rfl, rfl, rfl⟩

theorem readingCleared_acceptDecode (s : State) : (acceptDecode s).ReadingCleared := ⟨rfl, rfl, rfl, rfl, rfl, rfl, rfl⟩

/-- Settles O47: of all effects only the two acceptances and CALIB differ in the reading. -/
theorem readingWriters : Obligations.ReadingWriters := by
  unfold Obligations.ReadingWriters
  intro i s t h hne
  obtain he | he := exec_effect h
  · cases he with
    | acceptedRead _ hb => exact .inr ⟨hb, rfl, rfl, readingCleared_acceptRead s⟩
    | acceptedDecode _ hb => exact .inr ⟨hb, rfl, rfl, readingCleared_acceptDecode s⟩
    | _ => exact absurd rfl hne
  · cases he with
    | calib => exact .inl ⟨rfl, rfl⟩
    | _ => exact absurd rfl hne

/-- A write to one entry of a file leaves the others. -/
theorem getElem_set (f : PulseFile) (i j : Pair) (x : Count) : (f.set i x)[j] = if i = j then x else f[j] := by
  simp [Vector.getElem_set, Fin.ext_iff]

/-- Only an entry that was written differs, and it holds what was written. -/
theorem eq_of_getElem_set_ne {f : PulseFile} {i j : Pair} {x : Count} (h : (f.set i x)[j] ≠ f[j]) :
    i = j ∧ (f.set i x)[j] = x := by
  by_cases hij : i = j
  · exact ⟨hij, by rw [getElem_set, if_pos hij]⟩
  · rw [getElem_set, if_neg hij] at h; exact absurd rfl h

theorem getElem_cleared (j : Pair) : (Vector.replicate 41 0#16 : PulseFile)[j] = 0#16 := by simp

theorem storedCount_toNat (v : Word) : (storedCount v).toNat = v.toNat % 65536 := by
  simp [storedCount, BitVec.extractLsb'_toNat]

/-- The writers of an entry of `PDL`. -/
theorem pdl_writers {i : Instr} {s t : State} {j : Pair} (h : exec i s = .next t) (hne : t.pdl[j] ≠ s.pdl[j]) :
    (s.busy = false ∧ t = acceptRead s) ∨
    (i = .capLow ∧ s.lineIn = false ∧ s.idx.toNat = j.val ∧ t.pdl[j] = s.pdl[j] + 1#16) ∨
    (s.busy = false ∧ ∃ v : Word, (i = .wrPdl j v ∨ i = .wr (pdlIndex j) v) ∧ t.pdl[j] = storedCount v) := by
  obtain he | he := exec_effect h
  · cases he with
    | acceptedRead _ hb => exact .inl ⟨hb, rfl⟩
    | storedLow k v hi hb =>
      obtain ⟨rfl, hval⟩ := eq_of_getElem_set_ne hne
      exact .inr (.inr ⟨hb, v, hi, hval⟩)
    | _ => exact absurd rfl hne
  · cases he with
    | capLowCounts k hk hl _ =>
      obtain ⟨rfl, hval⟩ := eq_of_getElem_set_ne hne
      exact .inr (.inl ⟨rfl, hl, hk.symm, hval⟩)
    | _ => exact absurd rfl hne

/-- The writers of an entry of `PDH`. -/
theorem pdh_writers {i : Instr} {s t : State} {j : Pair} (h : exec i s = .next t) (hne : t.pdh[j] ≠ s.pdh[j]) :
    (s.busy = false ∧ t = acceptRead s) ∨
    (i = .capHigh ∧ s.lineIn = true ∧ s.idx.toNat = j.val ∧ t.pdh[j] = s.pdh[j] + 1#16) ∨
    (s.busy = false ∧ ∃ v : Word, (i = .wrPdh j v ∨ i = .wr (pdhIndex j) v) ∧ t.pdh[j] = storedCount v) := by
  obtain he | he := exec_effect h
  · cases he with
    | acceptedRead _ hb => exact .inl ⟨hb, rfl⟩
    | storedHigh k v hi hb =>
      obtain ⟨rfl, hval⟩ := eq_of_getElem_set_ne hne
      exact .inr (.inr ⟨hb, v, hi, hval⟩)
    | _ => exact absurd rfl hne
  · cases he with
    | capHighCounts k hk hl _ =>
      obtain ⟨rfl, hval⟩ := eq_of_getElem_set_ne hne
      exact .inr (.inl ⟨rfl, hl, hk.symm, hval⟩)
    | _ => exact absurd rfl hne

/-- Settles O48, from the writers of either file. -/
theorem durationWriters : Obligations.DurationWriters := by
  unfold Obligations.DurationWriters
  intro i s t j h
  refine ⟨fun hne => ?_, fun hne => ?_⟩
  · obtain ⟨hb, rfl⟩ | hcap | ⟨hb, v, hi, hval⟩ := pdl_writers h hne
    · exact .inl ⟨hb, rfl, rfl, getElem_cleared j⟩
    · exact .inr (.inl hcap)
    · exact .inr (.inr ⟨hb, v, hi, by rw [hval, storedCount_toNat]⟩)
  · obtain ⟨hb, rfl⟩ | hcap | ⟨hb, v, hi, hval⟩ := pdh_writers h hne
    · exact .inl ⟨hb, rfl, rfl, getElem_cleared j⟩
    · exact .inr (.inl hcap)
    · exact .inr (.inr ⟨hb, v, hi, by rw [hval, storedCount_toNat]⟩)

/-- Settles O49: of all effects only the two acceptances and the phase of the register differ in it. -/
theorem thresholdAndFrameWriters : Obligations.ThresholdAndFrameWriters := by
  unfold Obligations.ThresholdAndFrameWriters
  intro i s t h
  obtain he | he := exec_effect h
  · cases he with
    | acceptedRead _ hb | acceptedDecode _ hb => exact ⟨fun _ => .inr ⟨hb, rfl, rfl⟩, fun _ => .inr ⟨hb, rfl, rfl⟩⟩
    | _ => exact ⟨fun hne => absurd rfl hne, fun hne => absurd rfl hne⟩
  · cases he with
    | thresh => exact ⟨fun _ => .inl rfl, fun hne => absurd rfl hne⟩
    | bitdec => exact ⟨fun hne => absurd rfl hne, fun _ => .inl rfl⟩
    | _ => exact ⟨fun hne => absurd rfl hne, fun hne => absurd rfl hne⟩

/-- No phase writes a sticky flag (R33). -/
theorem sticky_of_phaseEffect {i : Instr} {s t : State} (h : PhaseEffect i s t) :
    t.illcmd = s.illcmd ∧ t.busyrej = s.busyrej := by
  cases h <;> exact ⟨rfl, rfl⟩

/-- A host access writes the sticky flags in one of three ways, or not at all (R33). -/
theorem sticky_of_hostEffect {i : Instr} {s t : State} (h : HostEffect i s t) :
    (t.illcmd = s.illcmd ∧ t.busyrej = s.busyrej) ∨
    (s.busy = false ∧ t = { s with illcmd := true } ∧ ∃ v : Word, v ≠ 1#32 ∧ v ≠ 2#32 ∧ WritesCmd v i) ∨
    (s.busy = true ∧ t = { s with busyrej := true } ∧ ∃ v : Word, WritesCmd v i ∨ WritesDuration v i) ∨
    (s.busy = false ∧ t.busy = true ∧ t.illcmd = false ∧ t.busyrej = false ∧
      ∃ v : Word, (v = 1#32 ∨ v = 2#32) ∧ WritesCmd v i) := by
  cases h with
  | illegal hw hb h1 h2 => exact .inr (.inl ⟨hb, rfl, _, h1, h2, hw⟩)
  | rejected hw hb => exact .inr (.inr (.inl ⟨hb, rfl, _, hw⟩))
  | acceptedRead hw hb => exact .inr (.inr (.inr ⟨hb, rfl, rfl, rfl, _, .inl rfl, hw⟩))
  | acceptedDecode hw hb => exact .inr (.inr (.inr ⟨hb, rfl, rfl, rfl, _, .inr rfl, hw⟩))
  | _ => exact .inl ⟨rfl, rfl⟩

/-- Settles O50: phases leave the flags, and each way a host access writes them is one clause of the statement. -/
theorem stickyFlagWriters : Obligations.StickyFlagWriters := by
  unfold Obligations.StickyFlagWriters
  intro i s t h
  have hsticky := (exec_effect h).elim sticky_of_hostEffect (fun hp => .inl (sticky_of_phaseEffect hp))
  obtain ⟨hill, hrej⟩ | ⟨hb, rfl, hv⟩ | ⟨hb, rfl, hv⟩ | ⟨hb, htb, hill, hrej, hv⟩ := hsticky
  · rw [hill, hrej]
    exact ⟨by simp_all, by simp_all, by simp_all⟩
  · exact ⟨fun _ _ => ⟨hb, rfl, hv⟩, by simp_all, by simp_all⟩
  · exact ⟨by simp_all, fun _ _ => ⟨hb, rfl, hv⟩, by simp_all⟩
  · rw [hill, hrej]
    exact ⟨by simp, by simp, fun _ => ⟨hb, htb, rfl, rfl, hv⟩⟩

end Sys2Proof.Machine

/-! PROOFS of the statements on the state (10_state.md), part 2: the single states (R38, R43, R44) and what the invariant
says phase by phase. -/

namespace Sys2Proof.Machine

/-! ### Single states and single instructions -/

/-- Settles O9: the reset state is closed but for the parameters, which `STATUS` does not show. -/
theorem resetStateIsAllZero : Obligations.ResetStateIsAllZero := by
  unfold Obligations.ResetStateIsAllZero
  have hentry (i : Pair) : State.reset.pdl[i] = 0#16 ∧ State.reset.pdh[i] = 0#16 := ⟨getElem_cleared i, getElem_cleared i⟩
  have hstatus : statusWord State.reset = 0x00000000#32 := by decide
  refine ⟨rfl, rfl, rfl, hentry, rfl, rfl, rfl, rfl, rfl, rfl, rfl, rfl, rfl, rfl, rfl, rfl, rfl, rfl, rfl, rfl, rfl, rfl,
    rfl, ?_⟩
  rw [← hstatus]; rfl

/-- Settles O36. -/
theorem phaseCodesWithoutMeaningStop : Obligations.PhaseCodesWithoutMeaningStop := by
  unfold Obligations.PhaseCodesWithoutMeaningStop
  intro s i hi
  simp only [List.mem_cons, List.not_mem_nil, or_false] at hi
  obtain rfl | rfl | rfl | rfl := hi <;> rfl

/-- A read of `STATUS` is defined at any time (R38, R65). -/
theorem exec_rdStatus (s : State) : exec .rdStatus s = .next { s with hostData := statusWord s } := by
  have hdefined : ¬ HiddenWhileBusy 0x01#8 := by decide
  exact congrArg Host.Outcome.next (memRead_defined (.inr hdefined))

/-- The register `STATUS` stores nothing (R38, R63). -/
theorem exec_wr_status (w : Word) (s : State) : exec (.wr 0x01#8 w) s = .next s := rfl

/-- The one-bit fields of `STATUS` (R38). -/
theorem statusWord_bits (s : State) :
    (statusWord s).getLsbD 0 = s.busy ∧ (statusWord s).getLsbD 1 = s.done ∧ (statusWord s).getLsbD 2 = s.valid ∧
    (statusWord s).getLsbD 5 = s.illcmd ∧ (statusWord s).getLsbD 6 = s.busyrej ∧ (statusWord s).getLsbD 7 = s.prio ∧
    (statusWord s).getLsbD 8 = s.lineOe ∧ (statusWord s).getLsbD 9 = s.lineOut ∧ (statusWord s).getLsbD 10 = s.tneg ∧
    (statusWord s).getLsbD 11 = s.hfb ∧ (statusWord s).getLsbD 12 = s.tfb := by
  unfold statusWord
  refine ⟨?_, ?_, ?_, ?_, ?_, ?_, ?_, ?_, ?_, ?_, ?_⟩ <;>
  · rw [BitVec.getLsbD_append]
    simp only [BitVec.getLsbD_append, BitVec.getLsbD_ofBool]
    rfl

/-- The wider fields of `STATUS`, and its reserved bits (R38). -/
theorem statusWord_fields (s : State) :
    (statusWord s).extractLsb' 3 2 = s.err ∧ (statusWord s).extractLsb' 13 3 = 0#3 ∧
    (statusWord s).extractLsb' 16 4 = s.phase ∧ (statusWord s).extractLsb' 20 6 = s.idx ∧
    (statusWord s).extractLsb' 26 4 = s.esite ∧ (statusWord s).extractLsb' 30 2 = 0#2 := by
  unfold statusWord
  refine ⟨?_, ?_, ?_, ?_, ?_, ?_⟩ <;>
  · rw [BitVec.extractLsb'_append_eq_of_le (by decide)]
    simp (disch := decide) only [BitVec.extractLsb'_append_eq_of_le, BitVec.extractLsb'_append_eq_of_add_le]
    exact BitVec.extractLsb'_eq_self
/-- Settles O15: the read returns `statusWord`, whose fields stand where R38 puts them. -/
theorem statusShowsEveryFieldInItsPlace : Obligations.StatusShowsEveryFieldInItsPlace := by
  unfold Obligations.StatusShowsEveryFieldInItsPlace
  intro s
  refine ⟨statusWord s, exec_rdStatus s, ?_⟩
  obtain ⟨hbusy, hdone, hvalid, hill, hrej, hprio, hoe, hout, hneg, hhfb, htfb⟩ := statusWord_bits s
  obtain ⟨herr, hzero, hphase, hidx, hsite, htop⟩ := statusWord_fields s
  exact ⟨hbusy, hdone, hvalid, herr, hill, hrej, hprio, hoe, hout, hneg, hhfb, htfb, hzero, hphase, hidx, hsite, htop,
    fun w => exec_wr_status w s⟩

/-! ### The invariant with no run in progress -/

/-- No run is in progress, and the block drives nothing (R37, R235). -/
structure State.Resting (s : State) : Prop where
  phase : s.phase = 0#4
  busy : s.busy = false
  lineOe : s.lineOe = false
  lineOut : s.lineOut = false
  prio : s.prio = false

/-- What the last run left in the flags is consistent (R29, R43 (f), (g), (h), (k)). -/
structure State.Judged (s : State) : Prop where
  valid : s.valid = true → s.err = 0#2 ∧ ChecksumOk s.frame
  err : s.err ≠ 0#2 → s.done = true ∧ s.valid = false
  err_ne_three : s.err ≠ 3#2
  esite_values : s.esite = 0#4 ∨ s.esite = 5#4 ∨ s.esite = 6#4 ∨ s.esite = 7#4
  esite_iff : s.esite ≠ 0#4 ↔ s.err = 1#2
  cleared : s.valid = false → s.ReadingCleared

theorem resting_of_inv {s : State} (h : s.Inv) (hb : s.busy = false) : s.Resting := by
  have hp : s.phase = 0#4 := by
    by_contra hne
    exact Bool.false_ne_true (hb.symm.trans (h.busy_iff.2 hne))
  have hprio := h.prio_phase
  have hoe := h.lineOe_iff
  have hout := h.lineOut_iff
  simp only [hp] at hprio hoe hout
  exact ⟨hp, hb, by simpa using hoe, by simpa using hout, by simpa using hprio⟩

theorem judged_of_inv {s : State} (h : s.Inv) : s.Judged where
  valid hv := ⟨(h.valid_outcome hv).1, h.valid_checksum hv⟩
  err he := ⟨(h.err_outcome he).1, (h.err_outcome he).2.1⟩
  err_ne_three := h.err_ne_three
  esite_values := h.esite_values
  esite_iff := h.esite_iff
  cleared := h.invalid_cleared

theorem inv_of_resting {s : State} (hr : s.Resting) (hj : s.Judged) (hl : s.params.Legal) (hi : s.idx.toNat ≤ 40) :
    s.Inv := by
  obtain ⟨hp, hb, hoe, hout, hprio⟩ := hr
  exact {
    phase_le := by simp [hp]
    busy_iff := by simp [hp, hb]
    not_busy_and_done := by simp [hb]
    idx_le := hi
    prio_phase := by simp [hprio]
    valid_outcome := fun hv => ⟨(hj.valid hv).1, hb⟩
    err_outcome := fun he => ⟨(hj.err he).1, (hj.err he).2, hj.cleared (hj.err he).2⟩
    err_ne_three := hj.err_ne_three
    esite_values := hj.esite_values
    esite_iff := hj.esite_iff
    counts_le := by simp [hp]
    lineOe_iff := by simp [hp, hoe]
    valid_checksum := fun hv => (hj.valid hv).2
    params_legal := hl
    invalid_cleared := hj.cleared
    lineOut_iff := by simp [hp, hout]
    cnt_lt := by simp [State.holdTicks, hp]
    idx_zero := by simp [hp]
    fresh := by simp [hp]
    undecoded := by simp [hp]
    calib_checksum := by simp [hp] }

/-- Without an error the flags are consistent when `VALID` says what it should (R43 (f) to (k)). -/
theorem judged_of_no_error {s : State} (he : s.err = 0#2) (hs : s.esite = 0#4) (hv : s.valid = true → ChecksumOk s.frame)
    (hc : s.valid = false → s.ReadingCleared) : s.Judged where
  valid h := ⟨he, hv h⟩
  err h := absurd he h
  err_ne_three := by rw [he]; decide
  esite_values := .inl hs
  esite_iff := by rw [he, hs]; decide
  cleared := hc

/-- A state as reset leaves it meets the invariant, whatever the legal parameters are and whatever the environment
holds (R44, R230). -/
theorem inv_of_reset {p : Params} (hl : p.Legal) (line : Bool) (data : Word) (events : List Event) (n : Nat) :
    ({ State.reset with params := p, lineIn := line, hostData := data, script := events, draws := n } : State).Inv :=
  inv_of_resting ⟨rfl, rfl, rfl, rfl, rfl⟩
    (judged_of_no_error rfl rfl (fun hv => Bool.noConfusion hv) fun _ => ⟨rfl, rfl, rfl, rfl, rfl, rfl, rfl⟩) hl
    (Nat.zero_le 40)

/-- An OPEN parameter is a number from 1 to 2^32 - 1, so it is not 0 (R11). -/
theorem ofNat_succ_ne_zero (n : Fin 4294967295) : BitVec.ofNat 32 (n.val + 1) ≠ 0#32 := by
  rw [ne_eq, ← BitVec.toNat_inj, BitVec.toNat_ofNat, BitVec.toNat_zero]
  have := n.isLt
  omega

theorem platform_legal : Config.platform.Legal :=
  ⟨ofNat_succ_ne_zero _, ofNat_succ_ne_zero _, ofNat_succ_ne_zero _⟩

/-- Settles O37: reset leaves an idle state, and the platform's parameters are legal. -/
theorem resetStateMeetsTheInvariant : Obligations.ResetStateMeetsTheInvariant :=
  inv_of_reset platform_legal false 0 [] 0

/-! ### The invariant while a run is in progress -/

/-- The flags and the reading while a run is in progress (R29, R43). -/
structure State.Running (s : State) : Prop where
  busy : s.busy = true
  done : s.done = false
  valid : s.valid = false
  err : s.err = 0#2
  esite : s.esite = 0#4
  cleared : s.ReadingCleared

/-- Nothing has been captured or decoded: what an accepted READ leaves (R111). -/
structure State.Blank (s : State) : Prop where
  idx : s.idx = 0#6
  pdl : ∀ i : Pair, s.pdl[i] = 0#16
  pdh : ∀ i : Pair, s.pdh[i] = 0#16
  thresh : s.thresh = 0#16
  frame : s.frame = 0#40

/-- Capture is at pair `IDX`: no count exceeds the bound, and later pairs hold nothing (R111, R142, R143). -/
structure State.Capturing (s : State) : Prop where
  idx_le : s.idx.toNat ≤ 40
  cnt_le : s.cnt.toNat ≤ s.params.maxCount.toNat
  pdl_le : ∀ i : Pair, s.pdl[i].toNat ≤ s.params.maxCount.toNat
  pdh_le : ∀ i : Pair, s.pdh[i].toNat ≤ s.params.maxCount.toNat
  pdl_fresh : ∀ i : Pair, s.idx.toNat < i.val → s.pdl[i] = 0#16
  pdh_fresh : ∀ i : Pair, s.idx.toNat < i.val → s.pdh[i] = 0#16
  thresh : s.thresh = 0#16
  frame : s.frame = 0#40

/-- What a run has done so far, by its phase (R36, R37, R42). -/
inductive State.Stage (s : State) : Prop
  | wakeHigh (hp : s.phase = 1#4) (hline : s.lineOe = true ∧ s.lineOut = true ∧ s.prio = false) (hblank : s.Blank)
      (hcnt : s.cnt.toNat < s.params.wakeHighTicks.toNat)
  | wakeLow (hp : s.phase = 2#4) (hline : s.lineOe = true ∧ s.lineOut = false ∧ s.prio = false) (hblank : s.Blank)
      (hcnt : s.cnt.toNat < s.params.wakeLowTicks.toNat)
  | handover (hp : s.phase = 3#4) (hline : s.lineOe = true ∧ s.lineOut = false ∧ s.prio = false) (hblank : s.Blank)
  | settle (hp : s.phase = 4#4) (hline : s.lineOe = false ∧ s.lineOut = false) (hblank : s.Blank)
      (hcnt : s.cnt.toNat < s.params.settleTicks.toNat)
  | readyWait (hp : s.phase = 5#4) (hline : s.lineOe = false ∧ s.lineOut = false) (hblank : s.Blank)
      (hcnt : s.cnt.toNat ≤ s.params.maxCount.toNat)
  | capLow (hp : s.phase = 6#4) (hline : s.lineOe = false ∧ s.lineOut = false) (hcap : s.Capturing)
      (hhigh : ∀ i : Pair, i.val = s.idx.toNat → s.pdh[i] = 0#16)
  | capHigh (hp : s.phase = 7#4) (hline : s.lineOe = false ∧ s.lineOut = false) (hcap : s.Capturing)
  | compute (hp : s.phase = 8#4 ∨ s.phase = 9#4 ∨ s.phase = 10#4 ∨ s.phase = 11#4 ∧ ChecksumOk s.frame)
      (hline : s.lineOe = false ∧ s.lineOut = false ∧ s.prio = false) (hidx : s.idx.toNat ≤ 40)

theorem running_of_inv {s : State} (h : s.Inv) (hb : s.busy = true) : s.Running := by
  have hvalid : s.valid = false := by
    by_contra hv
    exact Bool.false_ne_true ((h.valid_outcome (by simpa using hv)).2.symm.trans hb)
  have hdone : s.done = false := by
    by_contra hd
    exact h.not_busy_and_done ⟨hb, by simpa using hd⟩
  have herr : s.err = 0#2 := by
    by_contra he
    exact Bool.false_ne_true (hdone.symm.trans (h.err_outcome he).1)
  have hsite : s.esite = 0#4 := by
    by_contra hne
    have h1 := h.esite_iff.1 hne
    rw [herr] at h1
    exact absurd h1 (by decide)
  exact ⟨hb, hdone, hvalid, herr, hsite, h.invalid_cleared hvalid⟩

/-- The phases of a run in progress (R21). -/
theorem phase_cases {p : PhaseCode} (hle : p.toNat ≤ 11) (hne : p ≠ 0#4) :
    p = 1#4 ∨ p = 2#4 ∨ p = 3#4 ∨ p = 4#4 ∨ p = 5#4 ∨ p = 6#4 ∨ p = 7#4 ∨ p = 8#4 ∨ p = 9#4 ∨ p = 10#4 ∨ p = 11#4 := by
  revert p; decide

theorem blank_of_inv {s : State} (h : s.Inv) (h1 : 1 ≤ s.phase.toNat) (h5 : s.phase.toNat ≤ 5) : s.Blank where
  idx := h.idx_zero h1 h5
  pdl i := (h.fresh h1 (by omega) i).1 (.inr h5)
  pdh i := by
    have hidx := h.idx_zero h1 h5
    refine (h.fresh h1 (by omega) i).2 ?_
    rw [hidx]
    exact (Nat.eq_zero_or_pos i.val).elim (fun hi => .inr ⟨by omega, hi.symm⟩) .inl
  thresh := (h.undecoded h1 (by omega)).1
  frame := (h.undecoded h1 (by omega)).2

theorem capturing_of_inv {s : State} (h : s.Inv) (h6 : 6 ≤ s.phase.toNat) (h7 : s.phase.toNat ≤ 7) : s.Capturing where
  idx_le := h.idx_le
  cnt_le := (h.counts_le (by omega) h7).1
  pdl_le i := ((h.counts_le (by omega) h7).2 i).1
  pdh_le i := ((h.counts_le (by omega) h7).2 i).2
  pdl_fresh i hi := (h.fresh (by omega) h7 i).1 (.inl hi)
  pdh_fresh i hi := (h.fresh (by omega) h7 i).2 (.inl hi)
  thresh := (h.undecoded (by omega) h7).1
  frame := (h.undecoded (by omega) h7).2

theorem stage_of_inv {s : State} (h : s.Inv) (hb : s.busy = true) : s.Stage := by
  have hoe := h.lineOe_iff
  have hout := h.lineOut_iff
  have hprio := h.prio_phase
  have hcnt := h.cnt_lt
  have hblank := blank_of_inv h
  have hcap := capturing_of_inv h
  obtain hp | hp | hp | hp | hp | hp | hp | hp | hp | hp | hp := phase_cases h.phase_le (h.busy_iff.1 hb) <;>
    simp [hp, State.holdTicks] at hoe hout hprio hcnt hblank hcap
  · exact .wakeHigh hp ⟨hoe, hout, hprio⟩ hblank hcnt
  · exact .wakeLow hp ⟨hoe, hout, hprio⟩ hblank hcnt
  · exact .handover hp ⟨hoe, hout, hprio⟩ hblank
  · exact .settle hp ⟨hoe, hout⟩ hblank hcnt
  · exact .readyWait hp ⟨hoe, hout⟩ hblank (h.counts_le (by simp [hp]) (by simp [hp])).1
  · exact .capLow hp ⟨hoe, hout⟩ hcap fun i hi => (h.fresh (by simp [hp]) (by simp [hp]) i).2 (.inr ⟨by simp [hp], hi.symm⟩)
  · exact .capHigh hp ⟨hoe, hout⟩ hcap
  · exact .compute (.inl hp) ⟨hoe, hout, hprio⟩ h.idx_le
  · exact .compute (.inr (.inl hp)) ⟨hoe, hout, hprio⟩ h.idx_le
  · exact .compute (.inr (.inr (.inl hp))) ⟨hoe, hout, hprio⟩ h.idx_le
  · exact .compute (.inr (.inr (.inr ⟨hp, h.calib_checksum hp⟩))) ⟨hoe, hout, hprio⟩ h.idx_le

end Sys2Proof.Machine

/-! PROOFS of the statements on the state (10_state.md), part 3: every step keeps the invariant, and what follows (R35 to
R43, R130). -/

namespace Sys2Proof.Machine

/-! ### From what a run has done to the invariant -/

/-- The invariant before capture. -/
theorem inv_of_blank {s : State} (hr : s.Running) (hl : s.params.Legal) (hb : s.Blank)
    (hp : 1 ≤ s.phase.toNat ∧ s.phase.toNat ≤ 5) (hoe : s.lineOe = true ↔ s.phase.toNat ≤ 3)
    (hout : s.lineOut = true ↔ s.phase = 1#4) (hprio : s.prio = true → 4 ≤ s.phase.toNat)
    (hlt : ∀ n, s.holdTicks = some n → s.cnt.toNat < n.toNat)
    (hle : 5 ≤ s.phase.toNat → s.cnt.toNat ≤ s.params.maxCount.toNat) : s.Inv where
  phase_le := by omega
  busy_iff := ⟨fun _ h => by simp [h] at hp, fun _ => hr.busy⟩
  not_busy_and_done := by simp [hr.done]
  idx_le := by simp [hb.idx]
  prio_phase h := ⟨hprio h, by omega⟩
  valid_outcome := by simp [hr.valid]
  err_outcome := by simp [hr.err]
  err_ne_three := by simp [hr.err]
  esite_values := .inl hr.esite
  esite_iff := by simp [hr.esite, hr.err]
  counts_le h5 _ := ⟨hle h5, fun i => by simp [hb.pdl i, hb.pdh i]⟩
  lineOe_iff := by rw [hoe]; omega
  valid_checksum := by simp [hr.valid]
  params_legal := hl
  invalid_cleared _ := hr.cleared
  lineOut_iff := hout
  cnt_lt := hlt
  idx_zero _ _ := hb.idx
  fresh _ _ i := ⟨fun _ => hb.pdl i, fun _ => hb.pdh i⟩
  undecoded _ _ := ⟨hb.thresh, hb.frame⟩
  calib_checksum h := by simp [h] at hp

/-- The invariant during capture. -/
theorem inv_of_capturing {s : State} (hr : s.Running) (hl : s.params.Legal) (hc : s.Capturing)
    (hp : s.phase = 6#4 ∧ (∀ i : Pair, i.val = s.idx.toNat → s.pdh[i] = 0#16) ∨ s.phase = 7#4)
    (hline : s.lineOe = false ∧ s.lineOut = false) : s.Inv := by
  have hphase : s.phase = 6#4 ∨ s.phase = 7#4 := hp.imp_left And.left
  have hnum : 6 ≤ s.phase.toNat ∧ s.phase.toNat ≤ 7 := by obtain h | h := hphase <;> simp [h]
  have hhold : s.holdTicks = none := by obtain h | h := hphase <;> simp [State.holdTicks, h]
  exact {
    phase_le := by omega
    busy_iff := ⟨fun _ h => by simp [h] at hnum, fun _ => hr.busy⟩
    not_busy_and_done := by simp [hr.done]
    idx_le := hc.idx_le
    prio_phase := fun _ => by omega
    valid_outcome := by simp [hr.valid]
    err_outcome := by simp [hr.err]
    err_ne_three := by simp [hr.err]
    esite_values := .inl hr.esite
    esite_iff := by simp [hr.esite, hr.err]
    counts_le := fun _ _ => ⟨hc.cnt_le, fun i => ⟨hc.pdl_le i, hc.pdh_le i⟩⟩
    lineOe_iff := by rw [hline.1]; simp; omega
    valid_checksum := by simp [hr.valid]
    params_legal := hl
    invalid_cleared := fun _ => hr.cleared
    lineOut_iff := by obtain h | h := hphase <;> simp [hline.2, h]
    cnt_lt := by simp [hhold]
    idx_zero := fun _ _ => by omega
    fresh := fun _ _ i => ⟨fun h => hc.pdl_fresh i (by omega), fun h => by
      obtain h | ⟨h6, hi⟩ := h
      · exact hc.pdh_fresh i h
      · obtain ⟨-, hhigh⟩ | h7 := hp
        · exact hhigh i hi.symm
        · simp [h7] at h6⟩
    undecoded := fun _ _ => ⟨hc.thresh, hc.frame⟩
    calib_checksum := fun h => by simp [h] at hnum }

/-- The invariant after capture. -/
theorem inv_of_compute {s : State} (hr : s.Running) (hl : s.params.Legal)
    (hp : 8 ≤ s.phase.toNat ∧ s.phase.toNat ≤ 11) (hk : s.phase = 11#4 → ChecksumOk s.frame)
    (hline : s.lineOe = false ∧ s.lineOut = false ∧ s.prio = false) (hidx : s.idx.toNat ≤ 40) : s.Inv where
  phase_le := hp.2
  busy_iff := ⟨fun _ h => by simp [h] at hp, fun _ => hr.busy⟩
  not_busy_and_done := by simp [hr.done]
  idx_le := hidx
  prio_phase := by simp [hline.2.2]
  valid_outcome := by simp [hr.valid]
  err_outcome := by simp [hr.err]
  err_ne_three := by simp [hr.err]
  esite_values := .inl hr.esite
  esite_iff := by simp [hr.esite, hr.err]
  counts_le _ _ := by omega
  lineOe_iff := by rw [hline.1]; simp; omega
  valid_checksum := by simp [hr.valid]
  params_legal := hl
  invalid_cleared _ := hr.cleared
  lineOut_iff := by rw [hline.2.1]; simp; rintro h; simp [h] at hp
  cnt_lt n h := by
    unfold State.holdTicks at h
    split at h
    case h_4 => cases h
    all_goals omega
  idx_zero _ _ := by omega
  fresh _ _ := by omega
  undecoded _ _ := by omega
  calib_checksum := hk

/-- What a run in progress has done is all the invariant says of it. -/
theorem inv_of_stage {s : State} (hr : s.Running) (hs : s.Stage) (hl : s.params.Legal) : s.Inv := by
  cases hs with
  | wakeHigh hp hline hb hcnt | wakeLow hp hline hb hcnt =>
    exact inv_of_blank hr hl hb (by simp [hp]) (by simp [hp, hline]) (by simp [hp, hline]) (by simp [hline])
      (by simpa [State.holdTicks, hp] using hcnt) (by simp [hp])
  | handover hp hline hb =>
    exact inv_of_blank hr hl hb (by simp [hp]) (by simp [hp, hline]) (by simp [hp, hline]) (by simp [hline])
      (by simp [State.holdTicks, hp]) (by simp [hp])
  | settle hp hline hb hcnt =>
    exact inv_of_blank hr hl hb (by simp [hp]) (by simp [hp, hline]) (by simp [hp, hline]) (by simp [hp])
      (by simpa [State.holdTicks, hp] using hcnt) (by simp [hp])
  | readyWait hp hline hb hcnt =>
    exact inv_of_blank hr hl hb (by simp [hp]) (by simp [hp, hline]) (by simp [hp, hline]) (by simp [hp])
      (by simp [State.holdTicks, hp]) (fun _ => hcnt)
  | capLow hp hline hcap hhigh => exact inv_of_capturing hr hl hcap (.inl ⟨hp, hhigh⟩) hline
  | capHigh hp hline hcap => exact inv_of_capturing hr hl hcap (.inr hp) hline
  | compute hp hline hidx =>
    obtain hp | hp | hp | ⟨hp, hk⟩ := hp
    · exact inv_of_compute hr hl (by simp [hp]) (by simp [hp]) hline hidx
    · exact inv_of_compute hr hl (by simp [hp]) (by simp [hp]) hline hidx
    · exact inv_of_compute hr hl (by simp [hp]) (by simp [hp]) hline hidx
    · exact inv_of_compute hr hl (by simp [hp]) (fun _ => hk) hline hidx

/-! ### Ticks keep the invariant (R42) -/

theorem encode_decodePhase (code : PhaseCode) : encode (decodePhase code) = .ph4 code := by
  revert code; decide

theorem toNat_pos_of_ne_zero {n : BitVec 32} (h : n ≠ 0#32) : 0 < n.toNat := by
  rw [Nat.pos_iff_ne_zero]
  exact fun h0 => h (BitVec.eq_of_toNat_eq h0)

/-- The first pair's capture starts on clean files (R140). -/
theorem capturing_of_blank {s : State} (hb : s.Blank) (hcnt : s.cnt.toNat ≤ s.params.maxCount.toNat) : s.Capturing where
  idx_le := by simp [hb.idx]
  cnt_le := hcnt
  pdl_le i := by simp [hb.pdl i]
  pdh_le i := by simp [hb.pdh i]
  pdl_fresh i _ := hb.pdl i
  pdh_fresh i _ := hb.pdh i
  thresh := hb.thresh
  frame := hb.frame

/-- A duration below the bound may go up by one (R141, R142). -/
theorem count_add_one_le {x m : Count} (hle : x.toNat ≤ m.toNat) (hne : x ≠ m) : (x + 1#16).toNat ≤ m.toNat := by
  have hne' : x.toNat ≠ m.toNat := fun h => hne (BitVec.eq_of_toNat_eq h)
  rw [count_add_one (m := m) (by omega)]
  omega

/-- A file stays within the bound when what is written is. -/
theorem getElem_set_le {f : PulseFile} {x m : Count} (hf : ∀ j : Pair, f[j].toNat ≤ m.toNat) (hx : x.toNat ≤ m.toNat)
    (i j : Pair) : (f.set i x)[j].toNat ≤ m.toNat := by
  rw [getElem_set]
  split
  · exact hx
  · exact hf j

/-- A write at pair `IDX` leaves the later pairs. -/
theorem getElem_set_of_lt {f : PulseFile} {x : Count} {i j : Pair} (h : i.val < j.val) : (f.set i x)[j] = f[j] := by
  rw [getElem_set, if_neg]
  rintro rfl
  exact absurd h (Nat.lt_irrefl _)

theorem capturing_set_pdl {s : State} (hc : s.Capturing) {i : Pair} (hi : i.val = s.idx.toNat)
    (hne : s.pdl[i] ≠ s.params.maxCount) : ({ s with pdl := s.pdl.set i (s.pdl[i] + 1#16) } : State).Capturing :=
  { hc with
    pdl_le := getElem_set_le hc.pdl_le (count_add_one_le (hc.pdl_le i) hne) i
    pdl_fresh := fun j hj => (getElem_set_of_lt (hi.symm ▸ hj)).trans (hc.pdl_fresh j hj) }

theorem capturing_set_pdh {s : State} (hc : s.Capturing) {i : Pair} (hi : i.val = s.idx.toNat)
    (hne : s.pdh[i] ≠ s.params.maxCount) : ({ s with pdh := s.pdh.set i (s.pdh[i] + 1#16) } : State).Capturing :=
  { hc with
    pdh_le := getElem_set_le hc.pdh_le (count_add_one_le (hc.pdh_le i) hne) i
    pdh_fresh := fun j hj => (getElem_set_of_lt (hi.symm ▸ hj)).trans (hc.pdh_fresh j hj) }

/-- The next pair is still clean when its capture starts (R142). -/
theorem capturing_nextPair {s : State} (hc : s.Capturing) (hi : s.idx ≠ 40#6) :
    ({ s with idx := s.idx + 1#6, phase := 6#4 } : State).Capturing ∧
      ∀ i : Pair, i.val = (s.idx + 1#6).toNat → s.pdh[i] = 0#16 := by
  have hlt : s.idx.toNat < 40 := by
    have hne : s.idx.toNat ≠ 40 := fun h => hi (BitVec.eq_of_toNat_eq h)
    have := hc.idx_le
    omega
  have hidx := idx_add_one hlt
  refine ⟨{ hc with
    idx_le := by simp only [hidx]; omega
    pdl_fresh := fun i h => hc.pdl_fresh i (by simp only [hidx] at h; omega)
    pdh_fresh := fun i h => hc.pdh_fresh i (by simp only [hidx] at h; omega) }, fun i h => hc.pdh_fresh i (by omega)⟩

/-- A run in progress that times out leaves a good idle state (R201). -/
theorem inv_raiseTimeout {s : State} {site : BitVec 4} (hsite : site = 5#4 ∨ site = 6#4 ∨ site = 7#4) (hr : s.Running)
    (hl : s.params.Legal) (hline : s.lineOe = false ∧ s.lineOut = false) (hidx : s.idx.toNat ≤ 40) :
    (raiseTimeout site s).Inv := by
  have hne : site ≠ 0#4 := by obtain rfl | rfl | rfl := hsite <;> decide
  have hjudged : (raiseTimeout site s).Judged := {
    valid := fun hv => absurd (hr.valid.symm.trans hv) Bool.false_ne_true
    err := fun _ => ⟨rfl, hr.valid⟩
    err_ne_three := by simp
    esite_values := .inr hsite
    esite_iff := by simpa using hne
    cleared := fun _ => hr.cleared }
  exact inv_of_resting ⟨rfl, rfl, hline.1, hline.2, rfl⟩ hjudged hl hidx

/-- A checksum mismatch leaves a good idle state (R202). -/
theorem inv_raiseChecksumMismatch {s : State} (hr : s.Running) (hl : s.params.Legal)
    (hline : s.lineOe = false ∧ s.lineOut = false ∧ s.prio = false) (hidx : s.idx.toNat ≤ 40) :
    (raiseChecksumMismatch s).Inv := by
  obtain ⟨hoe, hout, hprio⟩ := hline
  have hjudged : (raiseChecksumMismatch s).Judged := {
    valid := fun hv => absurd (hr.valid.symm.trans hv) Bool.false_ne_true
    err := fun _ => ⟨rfl, hr.valid⟩
    err_ne_three := by simp
    esite_values := .inl hr.esite
    esite_iff := by simp [hr.esite]
    cleared := fun _ => hr.cleared }
  exact inv_of_resting ⟨rfl, rfl, hoe, hout, hprio⟩ hjudged hl hidx

/-- A reading leaves a good idle state (R181). -/
theorem inv_endRun_setReading {s : State} (hr : s.Running) (hl : s.params.Legal) (hk : ChecksumOk s.frame)
    (hline : s.lineOe = false ∧ s.lineOut = false ∧ s.prio = false) (hidx : s.idx.toNat ≤ 40) :
    (endRun (setReading s)).Inv := by
  obtain ⟨hoe, hout, hprio⟩ := hline
  have hjudged : (endRun (setReading s)).Judged :=
    judged_of_no_error hr.err hr.esite (fun _ => hk) fun hv => Bool.noConfusion hv
  exact inv_of_resting ⟨rfl, rfl, hoe, hout, hprio⟩ hjudged hl hidx

section PhaseByPhase

variable {s t : State} (hr : s.Running) (hl : s.params.Legal)

include hr hl

theorem inv_of_wakeHigh (hp : s.phase = 1#4) (hline : s.lineOe = true ∧ s.lineOut = true ∧ s.prio = false)
    (hblank : s.Blank) (he : PhaseEffect .wakeHigh s t) : t.Inv := by
  cases he with
  | wakeHighCounts hc => exact inv_of_stage { hr with } (.wakeHigh hp hline { hblank with } (by rwa [cnt_add_one hc])) hl
  | wakeHighEnds =>
    obtain ⟨hoe, -, hprio⟩ := hline
    exact inv_of_stage { hr with } (.wakeLow rfl ⟨hoe, rfl, hprio⟩ { hblank with } (toNat_pos_of_ne_zero hl.2.1)) hl

theorem inv_of_wakeLow (hp : s.phase = 2#4) (hline : s.lineOe = true ∧ s.lineOut = false ∧ s.prio = false)
    (hblank : s.Blank) (he : PhaseEffect .wakeLow s t) : t.Inv := by
  cases he with
  | wakeLowCounts hc => exact inv_of_stage { hr with } (.wakeLow hp hline { hblank with } (by rwa [cnt_add_one hc])) hl
  | wakeLowEnds => exact inv_of_stage { hr with } (.handover rfl hline { hblank with }) hl

theorem inv_of_handover (hout : s.lineOut = false) (hblank : s.Blank) (he : PhaseEffect .handover s t) : t.Inv := by
  cases he
  exact inv_of_stage { hr with } (.settle rfl ⟨rfl, hout⟩ { hblank with } (toNat_pos_of_ne_zero hl.2.2)) hl

theorem inv_of_settle (hp : s.phase = 4#4) (hline : s.lineOe = false ∧ s.lineOut = false) (hblank : s.Blank)
    (he : PhaseEffect .settle s t) : t.Inv := by
  cases he with
  | settleCounts hc => exact inv_of_stage { hr with } (.settle hp hline { hblank with } (by rwa [cnt_add_one hc])) hl
  | settleEnds => exact inv_of_stage { hr with } (.readyWait rfl hline { hblank with } (Nat.zero_le _)) hl

theorem inv_of_readyWait (hp : s.phase = 5#4) (hline : s.lineOe = false ∧ s.lineOut = false) (hblank : s.Blank)
    (hcnt : s.cnt.toNat ≤ s.params.maxCount.toNat) (he : PhaseEffect .readyWait s t) : t.Inv := by
  cases he with
  | readyWaitEnds =>
    exact inv_of_stage { hr with } (.capLow rfl hline (capturing_of_blank { hblank with idx := rfl } hcnt)
      fun i _ => hblank.pdh i) hl
  | readyWaitTimeout => exact inv_raiseTimeout (.inl rfl) hr hl hline (by simp [hblank.idx])
  | readyWaitCounts _ hc =>
    have hm := s.params.maxCount.isLt
    have hcnt' := cnt_add_one (c := s.cnt) (n := 65536#32) (by simp; omega)
    exact inv_of_stage { hr with } (.readyWait hp hline { hblank with } (by simp only [hcnt']; omega)) hl

theorem inv_of_capLow (hp : s.phase = 6#4) (hline : s.lineOe = false ∧ s.lineOut = false) (hcap : s.Capturing)
    (hhigh : ∀ i : Pair, i.val = s.idx.toNat → s.pdh[i] = 0#16) (he : PhaseEffect .capLow s t) : t.Inv := by
  cases he with
  | capLowEnds => exact inv_of_stage { hr with } (.capHigh rfl hline { hcap with }) hl
  | capLowTimeout => exact inv_raiseTimeout (.inr (.inl rfl)) hr hl hline hcap.idx_le
  | capLowCounts i hi _ hc => exact inv_of_stage { hr with } (.capLow hp hline (capturing_set_pdl hcap hi hc) hhigh) hl

theorem inv_of_capHigh (hp : s.phase = 7#4) (hline : s.lineOe = false ∧ s.lineOut = false) (hcap : s.Capturing)
    (he : PhaseEffect .capHigh s t) : t.Inv := by
  cases he with
  | capHighEnds => exact inv_of_stage { hr with } (.compute (.inl rfl) ⟨hline.1, hline.2, rfl⟩ hcap.idx_le) hl
  | capHighNextPair _ hi =>
    obtain ⟨hnext, hhigh⟩ := capturing_nextPair hcap hi
    exact inv_of_stage { hr with } (.capLow rfl hline hnext hhigh) hl
  | capHighTimeout => exact inv_raiseTimeout (.inr (.inr rfl)) hr hl hline hcap.idx_le
  | capHighCounts i hi _ hc => exact inv_of_stage { hr with } (.capHigh hp hline (capturing_set_pdh hcap hi hc)) hl

theorem inv_of_compute_phase
    (hp : s.phase = 8#4 ∨ s.phase = 9#4 ∨ s.phase = 10#4 ∨ s.phase = 11#4 ∧ ChecksumOk s.frame)
    (hline : s.lineOe = false ∧ s.lineOut = false ∧ s.prio = false) (hidx : s.idx.toNat ≤ 40)
    (he : PhaseEffect (decodePhase s.phase) s t) : t.Inv := by
  obtain hp | hp | hp | ⟨hp, hk⟩ := hp <;> rw [hp] at he
  · change PhaseEffect .thresh s t at he
    cases he
    exact inv_of_stage { hr with } (.compute (.inr (.inl rfl)) hline hidx) hl
  · change PhaseEffect .bitdec s t at he
    cases he
    exact inv_of_stage { hr with } (.compute (.inr (.inr (.inl rfl))) hline hidx) hl
  · change PhaseEffect .check s t at he
    cases he with
    | checkPasses hk => exact inv_of_stage { hr with } (.compute (.inr (.inr (.inr ⟨rfl, hk⟩))) hline hidx) hl
    | checkFails => exact inv_raiseChecksumMismatch hr hl hline hidx
  · change PhaseEffect .calib s t at he
    cases he
    exact inv_endRun_setReading hr hl hk hline hidx

end PhaseByPhase

/-- A tick without reset keeps the invariant: it leads from what the run has done to what the next phase needs. -/
theorem inv_of_phaseEffect {s t : State} (h : s.Inv) (he : PhaseEffect (decodePhase s.phase) s t) : t.Inv := by
  have hl := h.params_legal
  cases hb : s.busy with
  | false =>
    rw [(resting_of_inv h hb).phase] at he
    change PhaseEffect .idle s t at he
    cases he
    exact h
  | true =>
    have hr := running_of_inv h hb
    cases stage_of_inv h hb with
    | wakeHigh hp hline hblank => exact inv_of_wakeHigh hr hl hp hline hblank (by rw [hp] at he; exact he)
    | wakeLow hp hline hblank => exact inv_of_wakeLow hr hl hp hline hblank (by rw [hp] at he; exact he)
    | handover hp hline hblank => exact inv_of_handover hr hl hline.2.1 hblank (by rw [hp] at he; exact he)
    | settle hp hline hblank => exact inv_of_settle hr hl hp hline hblank (by rw [hp] at he; exact he)
    | readyWait hp hline hblank hcnt => exact inv_of_readyWait hr hl hp hline hblank hcnt (by rw [hp] at he; exact he)
    | capLow hp hline hcap hhigh => exact inv_of_capLow hr hl hp hline hcap hhigh (by rw [hp] at he; exact he)
    | capHigh hp hline hcap => exact inv_of_capHigh hr hl hp hline hcap (by rw [hp] at he; exact he)
    | compute hp hline hidx => exact inv_of_compute_phase hr hl hp hline hidx he

/-! ### Host accesses keep the invariant (R62, R63, R111 to R115) -/

/-- The invariant looks neither at the sticky flags nor at the environment, but for the parameters. -/
theorem inv_withUnread {s : State} (h : s.Inv) (ill rej line : Bool) (data : Word) (events : List Event) (n : Nat) :
    ({ s with illcmd := ill, busyrej := rej, lineIn := line, hostData := data, script := events, draws := n } : State).Inv :=
  { h with toDocumented := { h.toDocumented with } }

theorem inv_sampleLine {s : State} (h : s.Inv) (sample : Bool) : (sampleLine sample s).Inv :=
  inv_withUnread h s.illcmd s.busyrej sample s.hostData s.script s.draws

theorem inv_acceptRead {s : State} (h : s.Inv) (hb : s.busy = false) : (acceptRead s).Inv :=
  inv_of_stage ⟨rfl, rfl, rfl, rfl, rfl, readingCleared_acceptRead s⟩
    (.wakeHigh rfl ⟨rfl, rfl, (resting_of_inv h hb).prio⟩ ⟨rfl, getElem_cleared, getElem_cleared, rfl, rfl⟩
      (toNat_pos_of_ne_zero h.params_legal.1)) h.params_legal

theorem inv_acceptDecode {s : State} (h : s.Inv) (hb : s.busy = false) : (acceptDecode s).Inv := by
  obtain ⟨-, -, hoe, hout, hprio⟩ := resting_of_inv h hb
  exact inv_of_stage ⟨rfl, rfl, rfl, rfl, rfl, readingCleared_acceptDecode s⟩
    (.compute (.inl rfl) ⟨hoe, hout, hprio⟩ (Nat.zero_le 40)) h.params_legal

/-- With no run in progress the invariant does not look at the durations (R43 (i)). -/
theorem inv_withDurations {s : State} (h : s.Inv) (hb : s.busy = false) (pdl pdh : PulseFile) :
    ({ s with pdl := pdl, pdh := pdh } : State).Inv :=
  inv_of_resting { resting_of_inv h hb with } { judged_of_inv h with } h.params_legal h.idx_le

theorem inv_of_hostEffect {i : Instr} {s t : State} (h : s.Inv) (he : HostEffect i s t) : t.Inv := by
  cases he with
  | read d n => exact inv_withUnread h s.illcmd s.busyrej s.lineIn d s.script n
  | ignored => exact h
  | illegal => exact inv_withUnread h true s.busyrej s.lineIn s.hostData s.script s.draws
  | rejected => exact inv_withUnread h s.illcmd true s.lineIn s.hostData s.script s.draws
  | acceptedRead _ hb => exact inv_acceptRead h hb
  | acceptedDecode _ hb => exact inv_acceptDecode h hb
  | storedLow k v _ hb => exact inv_withDurations h hb (s.pdl.set k (storedCount v)) s.pdh
  | storedHigh k v _ hb => exact inv_withDurations h hb s.pdl (s.pdh.set k (storedCount v))

/-! ### Every step keeps the invariant (R22, R29, R32, R36, R37, R43) -/

/-- An HT41 word is a host write, a host read, or no transaction (R91, R94 (c)). -/
theorem decodeHt41_cases (w : BitVec 41) :
    (∃ idx v, w = ht41 true idx v ∧ decodeHt41 w = .ok (decodeWrite idx v)) ∨
    (∃ idx, w = ht41 false idx 0#32 ∧ decodeHt41 w = .ok (decodeRead idx)) ∨
    decodeHt41 w = .error .readDataNotZero := by
  have hw := ht41_fields w
  unfold decodeHt41
  cases hk : ht41K w with
  | true => rw [hk] at hw; exact .inl ⟨_, _, hw.symm, rfl⟩
  | false =>
    by_cases hd : ht41Data w = 0#32
    · rw [hk, hd] at hw; exact .inr (.inl ⟨_, hw.symm, by simp [hd]⟩)
    · exact .inr (.inr (by simp [hd]))

/-- What an event does: a reset tick, a tick of the phase, a host write in either spelling, or a host read (R70). -/
theorem onEvent_effect {e : Event} {s t : State} (h : onEvent e s = .next t) :
    (∃ sample, e = .tick true sample ∧ t = resetTick (sampleLine sample s)) ∨
    (∃ sample, e = .tick false sample ∧ PhaseEffect (decodePhase s.phase) (sampleLine sample s) t) ∨
    (∃ idx v, (e = .transaction (ht41 true idx v) ∨ idx = 0x00#8 ∧ e = .command v) ∧ HostEffect (.wr idx v) s t) ∨
    (∃ idx, e = .transaction (ht41 false idx 0#32) ∧ t = memRead idx s) := by
  cases e with
  | tick rst sample =>
    cases rst with
    | true => cases h; exact .inl ⟨sample, rfl, rfl⟩
    | false =>
      rw [onEvent_tick] at h
      exact .inr (.inl ⟨sample, rfl, phaseEffect_of_exec (encode_decodePhase s.phase) h⟩)
  | command v =>
    rw [onEvent_command, exec_decodeCmd] at h
    cases h
    exact .inr (.inr (.inl ⟨0x00#8, v, .inr ⟨rfl, rfl⟩, hostEffect_memWrite 0x00#8 v s⟩))
  | transaction w =>
    obtain ⟨idx, v, rfl, hd⟩ | ⟨idx, rfl, hd⟩ | hd := decodeHt41_cases w
    · rw [onEvent_transaction_of_decode (busy := s.busy) hd, exec_decodeWrite] at h
      cases h
      exact .inr (.inr (.inl ⟨idx, v, .inl rfl, hostEffect_memWrite idx v s⟩))
    · rw [onEvent_transaction_of_decode (busy := s.busy) hd, exec_decodeRead] at h
      cases h
      exact .inr (.inr (.inr ⟨idx, rfl, rfl⟩))
    · rw [onEvent_transaction_of_error (busy := s.busy) hd] at h
      cases h

theorem inv_resetTick {s : State} (h : s.Inv) : (resetTick s).Inv :=
  inv_of_reset h.params_legal s.lineIn s.hostData s.script s.draws

theorem inv_of_onEvent {e : Event} {s t : State} (h : s.Inv) (ht : onEvent e s = .next t) : t.Inv := by
  obtain ⟨sample, -, rfl⟩ | ⟨sample, -, he⟩ | ⟨idx, v, -, he⟩ | ⟨idx, -, rfl⟩ := onEvent_effect ht
  · exact inv_resetTick (inv_sampleLine h sample)
  · exact inv_of_phaseEffect (inv_sampleLine h sample) he
  · exact inv_of_hostEffect h he
  · exact inv_of_hostEffect h (hostEffect_memRead (.rd idx) idx s)

/-- Taking the next event from the store changes nothing the invariant looks at. -/
theorem inv_takeEvent {s : State} (h : s.Inv) : (takeEvent s).2.Inv := by
  unfold takeEvent
  split
  · exact inv_withUnread h s.illcmd s.busyrej s.lineIn s.hostData _ s.draws
  · exact inv_withUnread h s.illcmd s.busyrej s.lineIn s.hostData s.script (s.draws + 1)

/-- Settles O38: taking the event changes nothing the invariant looks at, and each kind of event keeps it. -/
theorem everyStepKeepsTheInvariant : Obligations.EveryStepKeepsTheInvariant := by
  unfold Obligations.EveryStepKeepsTheInvariant
  intro s t h ht
  exact inv_of_onEvent (inv_takeEvent h) ht

/-- Every state a run from a good state reaches is good. -/
theorem inv_of_runSteps {n : Nat} {s t : State} (h : s.Inv) (ht : runSteps n s = .next t) : t.Inv := by
  induction n generalizing s with
  | zero => cases ht; exact h
  | succ n ih =>
    rw [runSteps] at ht
    cases hs : step s with
    | next u => rw [hs] at ht; exact ih (everyStepKeepsTheInvariant s u h hs) ht
    | fault r => rw [hs] at ht; cases ht
    | refused r => rw [hs] at ht; cases ht

/-- Every state reachable from reset with legal parameters is good. -/
theorem inv_of_reachable {p : Params} {events : List Event} {n : Nat} {t : State} (hl : p.Legal)
    (ht : runSteps n { State.reset with params := p, script := events } = .next t) : t.Inv :=
  inv_of_runSteps (inv_of_reset hl false 0 events 0) ht

/-- Settles O39: the stronger invariant holds of every reachable state. -/
theorem reachableStatesMeetTheDocumentedInvariants : Obligations.ReachableStatesMeetTheDocumentedInvariants := by
  unfold Obligations.ReachableStatesMeetTheDocumentedInvariants
  intro p events n t hl ht
  exact (inv_of_reachable hl ht).toDocumented

/-- Settles O43: a reachable state without a run is at rest. -/
theorem noRunLeavesTheLineDrivenOrThePriorityUp : Obligations.NoRunLeavesTheLineDrivenOrThePriorityUp := by
  unfold Obligations.NoRunLeavesTheLineDrivenOrThePriorityUp
  intro p events n t hl ht hb
  obtain ⟨-, -, hoe, hout, hprio⟩ := resting_of_inv (inv_of_reachable hl ht) hb
  exact ⟨hoe, hout, hprio⟩

/-- WR writes `CMD` with its data when its index is 0x00, and no other value (R63, R91). -/
theorem writesCmd_wr_iff {u v : Word} {idx : Index} : WritesCmd u (.wr idx v) ↔ idx = 0x00#8 ∧ v = u := by
  simp [WritesCmd]

/-- Settles O44: of the four kinds of event only a host write can raise `BUSY`, and only by an acceptance. -/
theorem onlyAnAcceptedCommandLeavesIdle : Obligations.OnlyAnAcceptedCommandLeavesIdle := by
  unfold Obligations.OnlyAnAcceptedCommandLeavesIdle
  intro s t e h hb ht htb
  obtain ⟨sample, -, rfl⟩ | ⟨sample, -, he⟩ | ⟨idx, v, hev, he⟩ | ⟨idx, -, rfl⟩ := onEvent_effect ht
  · exact absurd htb Bool.false_ne_true
  · rw [(resting_of_inv h hb).phase] at he
    change PhaseEffect .idle _ t at he
    cases he
    exact absurd (hb.symm.trans htb) Bool.false_ne_true
  · have hspelled (hidx : idx = 0x00#8) : e = .command v ∨ e = .transaction (ht41 true 0x00#8 v) := by
      obtain rfl | ⟨-, rfl⟩ := hev
      · exact .inr (by rw [hidx])
      · exact .inl rfl
    cases he with
    | acceptedRead hw =>
      obtain ⟨hidx, hv⟩ := writesCmd_wr_iff.1 hw
      exact ⟨v, hspelled hidx, .inl ⟨hv, rfl⟩⟩
    | acceptedDecode hw =>
      obtain ⟨hidx, hv⟩ := writesCmd_wr_iff.1 hw
      exact ⟨v, hspelled hidx, .inr ⟨hv, rfl⟩⟩
    | _ => exact absurd (hb.symm.trans htb) Bool.false_ne_true
  · rw [memRead_frame] at htb
    exact absurd (hb.symm.trans htb) Bool.false_ne_true

/-! ### Good states go on (R42, R94 (c), R200) -/

/-- A phase that has a meaning answers a next state while `IDX` names a pair (R21, R74). -/
theorem exec_phase_next {i : Instr} {code : PhaseCode} {s : State} (hi : encode i = .ph4 code) (hcode : code.toNat ≤ 11)
    (hidx : s.idx.toNat ≤ 40) : ∃ t, exec i s = .next t := by
  cases i with
  | capLow =>
    obtain ⟨-, h⟩ | ⟨-, hbad, -⟩ | ⟨i, -, -, -, h⟩ | ⟨i, -, -, -, h⟩ := execCapLow_cases s
    · exact ⟨_, h⟩
    · omega
    · exact ⟨_, h⟩
    · exact ⟨_, h⟩
  | capHigh =>
    obtain ⟨-, h⟩ | ⟨-, hbad, -⟩ | ⟨i, -, -, -, h⟩ | ⟨i, -, -, -, h⟩ := execCapHigh_cases s
    · exact ⟨_, h⟩
    · omega
    · exact ⟨_, h⟩
    · exact ⟨_, h⟩
  | idle | wakeHigh | wakeLow | handover | settle | readyWait | thresh | bitdec | check | calib => exact ⟨_, rfl⟩
  | phase12 | phase13 | phase14 | phase15 => cases hi; exact absurd hcode (by decide)
  | _ => cases hi

/-- In a good state every tick without reset has a next state, by the effect of the phase. -/
theorem exec_decodePhase_next {s : State} (h : s.Inv) :
    ∃ t, exec (decodePhase s.phase) s = .next t ∧ PhaseEffect (decodePhase s.phase) s t := by
  obtain ⟨t, ht⟩ := exec_phase_next (encode_decodePhase s.phase) h.phase_le h.idx_le
  exact ⟨t, ht, phaseEffect_of_exec (encode_decodePhase s.phase) ht⟩

/-- In a good state an event has a next state, or is a word that is no transaction. -/
theorem onEvent_next_or_refused {s : State} (h : s.Inv) (e : Event) :
    (∃ t, onEvent e s = .next t) ∨
    (onEvent e s = .refused .readDataNotZero ∧ ∃ w, e = .transaction w ∧ decodeHt41 w = .error .readDataNotZero) := by
  cases e with
  | tick rst sample =>
    cases rst with
    | true => exact .inl ⟨_, rfl⟩
    | false =>
      obtain ⟨t, ht, -⟩ := exec_decodePhase_next (inv_sampleLine h sample)
      exact .inl ⟨t, ht⟩
  | command v => exact .inl ⟨_, by rw [onEvent_command, exec_decodeCmd]⟩
  | transaction w =>
    obtain ⟨idx, v, -, hd⟩ | ⟨idx, -, hd⟩ | hd := decodeHt41_cases w
    · exact .inl ⟨_, by rw [onEvent_transaction_of_decode (busy := s.busy) hd, exec_decodeWrite]⟩
    · exact .inl ⟨_, by rw [onEvent_transaction_of_decode (busy := s.busy) hd, exec_decodeRead]⟩
    · exact .inr ⟨onEvent_transaction_of_error (busy := s.busy) hd s, w, rfl, hd⟩

/-- A host access that the next step handles is the first event in store; a free event is a tick. -/
theorem script_of_takeEvent_transaction {s : State} {w : BitVec 41} (h : (takeEvent s).1 = .transaction w) :
    ∃ rest, s.script = .transaction w :: rest := by
  cases hs : s.script with
  | nil => rw [takeEvent_nil hs] at h; cases h
  | cons e rest => rw [takeEvent_cons hs] at h; cases h; exact ⟨rest, rfl⟩

/-- Settles O40: the event that a good state refuses is the first in store, since a free event is a tick. -/
theorem goodStatesNeverFault : Obligations.GoodStatesNeverFault := by
  unfold Obligations.GoodStatesNeverFault
  intro s h
  obtain hnext | ⟨href, w, hw, hd⟩ := onEvent_next_or_refused (inv_takeEvent h) (takeEvent s).1
  · exact .inl hnext
  · obtain ⟨rest, hs⟩ := script_of_takeEvent_transaction hw
    exact .inr ⟨href, w, rest, hs, hd⟩

end Sys2Proof.Machine

/-! PROOFS of the statements on the state (10_state.md), part 4: the transition table (R42). -/

namespace Sys2Proof.Machine

/-- The pair `IDX` names is the pair of its number (R22). -/
theorem pair_eq_ofNat {i : Pair} {idx : BitVec 6} (h : i.val = idx.toNat) : i = Fin.ofNat 41 idx.toNat := by
  ext
  rw [Fin.val_ofNat, ← h, Nat.mod_eq_of_lt i.isLt]

/-- The row of READY_WAIT (R42, R140). -/
theorem phase_of_readyWait {s t : State} (hp : s.phase = 5#4) (he : PhaseEffect .readyWait s t) :
    (s.lineIn = false → t.phase.toNat = 6) ∧
    (s.lineIn = true → s.cnt.toNat < s.params.maxCount.toNat → t.phase.toNat = 5) ∧
    (s.lineIn = true → s.cnt.toNat = s.params.maxCount.toNat → t.phase.toNat = 0 ∧ t.err = 1#2 ∧ t.esite.toNat = 5) := by
  cases he with
  | readyWaitEnds hl => simp [hl]
  | readyWaitTimeout hl hc => simp [hl, hc]
  | readyWaitCounts hl hc => simp [hl, hc, hp]

/-- The row of CAP_LOW (R42, R141). -/
theorem phase_of_capLow {s t : State} (hp : s.phase = 6#4) (he : PhaseEffect .capLow s t) :
    (s.lineIn = true → t.phase.toNat = 7) ∧
    (s.lineIn = false → s.pdl[Fin.ofNat 41 s.idx.toNat].toNat < s.params.maxCount.toNat → t.phase.toNat = 6) ∧
    (s.lineIn = false → s.pdl[Fin.ofNat 41 s.idx.toNat].toNat = s.params.maxCount.toNat →
      t.phase.toNat = 0 ∧ t.err = 1#2 ∧ t.esite.toNat = 6) := by
  cases he with
  | capLowEnds hl => simp [hl]
  | capLowTimeout i hi hl hc =>
    obtain rfl := pair_eq_ofNat hi
    rw [hc]
    simp [hl]
  | capLowCounts i hi hl hc =>
    obtain rfl := pair_eq_ofNat hi
    exact ⟨by simp [hl], fun _ _ => by simp [hp], fun _ hm => absurd (BitVec.eq_of_toNat_eq hm) hc⟩

/-- The row of CAP_HIGH (R42, R142). -/
theorem phase_of_capHigh {s t : State} (hp : s.phase = 7#4) (he : PhaseEffect .capHigh s t) :
    (s.lineIn = false → s.idx.toNat < 40 → t.phase.toNat = 6) ∧
    (s.lineIn = false → s.idx.toNat = 40 → t.phase.toNat = 8) ∧
    (s.lineIn = true → s.pdh[Fin.ofNat 41 s.idx.toNat].toNat < s.params.maxCount.toNat → t.phase.toNat = 7) ∧
    (s.lineIn = true → s.pdh[Fin.ofNat 41 s.idx.toNat].toNat = s.params.maxCount.toNat →
      t.phase.toNat = 0 ∧ t.err = 1#2 ∧ t.esite.toNat = 7) := by
  cases he with
  | capHighEnds hl hi => simp [hl, hi]
  | capHighNextPair hl hi =>
    have hne : s.idx.toNat ≠ 40 := fun h => hi (BitVec.eq_of_toNat_eq h)
    simp [hl, hne]
  | capHighTimeout i hi hl hc =>
    obtain rfl := pair_eq_ofNat hi
    rw [hc]
    simp [hl]
  | capHighCounts i hi hl hc =>
    obtain rfl := pair_eq_ofNat hi
    exact ⟨by simp [hl], by simp [hl], fun _ _ => by simp [hp], fun _ hm => absurd (BitVec.eq_of_toNat_eq hm) hc⟩

/-- The row of CHECK (R42, R170). -/
theorem phase_of_check {s t : State} (he : PhaseEffect .check s t) :
    (ChecksumOk s.frame → t.phase.toNat = 11) ∧ (¬ ChecksumOk s.frame → t.phase.toNat = 0 ∧ t.err = 2#2) := by
  cases he with
  | checkPasses hk => exact ⟨fun _ => rfl, fun hn => absurd hk hn⟩
  | checkFails hk => exact ⟨fun hn => absurd hn hk, fun _ => ⟨rfl, rfl⟩⟩

/-- Settles O41: the tick has the effect of its phase, and each effect leads where the row says. -/
theorem ticksFollowTheTransitionTable : Obligations.TicksFollowTheTransitionTable := by
  unfold Obligations.TicksFollowTheTransitionTable
  intro s h
  obtain ⟨t, ht, he⟩ := exec_decodePhase_next h
  refine ⟨t, ht, ?_⟩
  by_cases hp : s.phase = 0#4
  · rw [hp] at he
    change PhaseEffect .idle s t at he
    cases he
    simp [hp]
  obtain hp | hp | hp | hp | hp | hp | hp | hp | hp | hp | hp := phase_cases h.phase_le hp <;>
    rw [hp] at he <;> simp only [hp, BitVec.toNat_ofNat]
  · change PhaseEffect .wakeHigh s t at he
    cases he with
    | wakeHighCounts hc => simp [hc, hp]
    | wakeHighEnds hc => simp [Nat.not_lt.2 hc]
  · change PhaseEffect .wakeLow s t at he
    cases he with
    | wakeLowCounts hc => simp [hc, hp]
    | wakeLowEnds hc => simp [Nat.not_lt.2 hc]
  · change PhaseEffect .handover s t at he
    cases he
    rfl
  · change PhaseEffect .settle s t at he
    cases he with
    | settleCounts hc => simp [hc, hp]
    | settleEnds hc => simp [Nat.not_lt.2 hc]
  · exact phase_of_readyWait hp he
  · exact phase_of_capLow hp he
  · exact phase_of_capHigh hp he
  · change PhaseEffect .thresh s t at he
    cases he
    rfl
  · change PhaseEffect .bitdec s t at he
    cases he
    rfl
  · exact phase_of_check he
  · change PhaseEffect .calib s t at he
    cases he
    rfl

end Sys2Proof.Machine

/-! PROOFS of the statements on the memory map (20_memory.md): what a host read returns and what a host write stores. -/

namespace Sys2Proof.Machine

/-! ### The indices of the window (R64, R65) -/

theorem pdlIndex_inWindow (i : Pair) : (pdlIndex i).InWindow := by
  have h := pdlIndex_toNat i
  exact ⟨by omega, by omega⟩

theorem pdhIndex_inWindow (i : Pair) : (pdhIndex i).InWindow := by
  have h := pdhIndex_toNat i
  exact ⟨by omega, by omega⟩

/-! ### The view of each index as a number (R62, R64, R92) -/

theorem readCount_eq_ofNat (c : Count) : readCount c = BitVec.ofNat 32 c.toNat := (BitVec.ofNat_toNat 32 c).symm

theorem readView_pdlIndex (i : Pair) (s : State) : readView (pdlIndex i) s = BitVec.ofNat 32 s.pdl[i].toNat := by
  rw [readView, windowPair_pdlIndex, windowHigh_pdlIndex, ← readCount_eq_ofNat]
  rfl

theorem readView_pdhIndex (i : Pair) (s : State) : readView (pdhIndex i) s = BitVec.ofNat 32 s.pdh[i].toNat := by
  rw [readView, windowPair_pdhIndex, windowHigh_pdhIndex, ← readCount_eq_ofNat]
  rfl

theorem readView_thresh (s : State) : readView 0x02#8 s = BitVec.ofNat 32 s.thresh.toNat := readCount_eq_ofNat s.thresh

/-- `FRAME_HI` is bits 39:8 (R39). -/
theorem readView_frameHi (s : State) : readView 0x03#8 s = BitVec.ofNat 32 (s.frame.toNat / 256) := by
  change s.frame.extractLsb' 8 32 = _
  rw [BitVec.extractLsb', Nat.shiftRight_eq_div_pow]

/-- `FRAME_LO` is bits 7:0 (R39). -/
theorem readView_frameLo (s : State) : readView 0x04#8 s = BitVec.ofNat 32 (s.frame.toNat % 256) := by
  change (s.frame.extractLsb' 0 8).setWidth 32 = _
  rw [← BitVec.ofNat_toNat, BitVec.extractLsb'_toNat, Nat.shiftRight_zero]

/-- The indices above 0x08 outside the window are reserved and read 0 (R62, R64). -/
theorem readView_reserved {idx : Index} (habove : 0x08 < idx.toNat) (hout : ¬ idx.InWindow) (s : State) :
    readView idx s = 0#32 := by
  have hne (k : Index) (hk : k.toNat ≤ 0x08) : idx ≠ k := by rintro rfl; omega
  rw [readView, (windowPair_eq_none_iff idx).2 hout]
  simp [hne]

/-! ### Reads that are defined at all times (R65) -/

/-- A read outside the indices of R65 returns the view, whatever `BUSY` is. -/
theorem next_memRead_visible {idx : Index} {v : Word} {s : State} (hvisible : ¬ HiddenWhileBusy idx)
    (hview : readView idx s = v) : Host.Outcome.next (memRead idx s) = (.next { s with hostData := v } : Result) := by
  rw [memRead_defined (.inr hvisible), hview]

/-- Settles O16: none of these indices is hidden, so each read returns the view of its index. -/
theorem readsDefinedAtAllTimes : Obligations.ReadsDefinedAtAllTimes := by
  unfold Obligations.ReadsDefinedAtAllTimes
  intro s
  refine ⟨?hum, ?tmag, ?tempC, ?tempF, ?cmd, ?reserved⟩
  case hum => exact next_memRead_visible (by decide) (BitVec.ofNat_toNat 32 s.hum).symm
  case tmag => exact next_memRead_visible (by decide) (BitVec.ofNat_toNat 32 s.tmag).symm
  case tempC => exact next_memRead_visible (by decide) rfl
  case tempF => exact next_memRead_visible (by decide) rfl
  case cmd => exact next_memRead_visible (by decide) rfl
  case reserved =>
    intro idx hwf
    obtain ⟨habove, hout⟩ : 0x08 < idx.toNat ∧ ¬ idx.InWindow := of_decide_eq_true hwf
    have hvisible : ¬ HiddenWhileBusy idx := by
      rintro (⟨-, hle⟩ | hin)
      · omega
      · exact hout hin
    exact next_memRead_visible hvisible (readView_reserved habove hout s)

/-- Settles O19: a run in progress has no reading yet, and what these reads return is the cleared register. -/
theorem readingRegistersReadZeroDuringARun : Obligations.ReadingRegistersReadZeroDuringARun := by
  unfold Obligations.ReadingRegistersReadZeroDuringARun
  intro s hinv hb j hj
  obtain ⟨hhum, htmag, htempC, htempF, -⟩ := (running_of_inv hinv hb).cleared
  obtain ⟨rdHum, rdTmag, rdTempC, rdTempF, -⟩ := readsDefinedAtAllTimes s
  simp only [List.mem_cons, List.not_mem_nil, or_false] at hj
  obtain rfl | rfl | rfl | rfl := hj
  · rw [rdHum, hhum]; rfl
  · rw [rdTmag, htmag]; rfl
  · rw [rdTempC, htempC]
  · rw [rdTempF, htempF]

/-! ### Reads of the threshold, the frame and the durations (R62, R65) -/

/-- While idle every read returns the view of its index. -/
theorem next_memRead_idle {idx : Index} {v : Word} {s : State} (hb : s.busy = false) (hview : readView idx s = v) :
    Host.Outcome.next (memRead idx s) = (.next { s with hostData := v } : Result) := by
  rw [memRead_defined (.inl hb), hview]

theorem exec_rdPdl_idle {i : Pair} {n : Nat} {s : State} (hb : s.busy = false) (hn : s.pdl[i].toNat = n) :
    exec (.rdPdl i) s = .next { s with hostData := BitVec.ofNat 32 n } :=
  next_memRead_idle hb (by rw [readView_pdlIndex, hn])

theorem exec_rdPdh_idle {i : Pair} {n : Nat} {s : State} (hb : s.busy = false) (hn : s.pdh[i].toNat = n) :
    exec (.rdPdh i) s = .next { s with hostData := BitVec.ofNat 32 n } :=
  next_memRead_idle hb (by rw [readView_pdhIndex, hn])

/-- Settles O17: with `BUSY = 0` no index is hidden, so each read returns the view of its index. -/
theorem readsOfDecodeDataWhileIdle : Obligations.ReadsOfDecodeDataWhileIdle := by
  unfold Obligations.ReadsOfDecodeDataWhileIdle
  intro s i hb
  exact ⟨next_memRead_idle hb (readView_thresh s), next_memRead_idle hb (readView_frameHi s),
    next_memRead_idle hb (readView_frameLo s), exec_rdPdl_idle hb rfl, exec_rdPdh_idle hb rfl⟩

/-- The five reads of R65 are reads of indices that are hidden while busy. -/
theorem exec_hidden_read {i : Pair} {j : Instr} (hj : j ∈ [Instr.rdThresh, .rdFrameHi, .rdFrameLo, .rdPdl i, .rdPdh i]) :
    ∃ idx, HiddenWhileBusy idx ∧ ∀ s, exec j s = .next (memRead idx s) := by
  simp only [List.mem_cons, List.not_mem_nil, or_false] at hj
  obtain rfl | rfl | rfl | rfl | rfl := hj
  · exact ⟨0x02#8, by decide, fun _ => rfl⟩
  · exact ⟨0x03#8, by decide, fun _ => rfl⟩
  · exact ⟨0x04#8, by decide, fun _ => rfl⟩
  · exact ⟨pdlIndex i, .inr (pdlIndex_inWindow i), fun _ => rfl⟩
  · exact ⟨pdhIndex i, .inr (pdhIndex_inWindow i), fun _ => rfl⟩

/-- Settles O18: each of the five reads is of a hidden index, and `BUSY = 1`. -/
theorem readsOfDecodeDataWhileBusyAreFree : Obligations.ReadsOfDecodeDataWhileBusyAreFree := by
  unfold Obligations.ReadsOfDecodeDataWhileBusyAreFree
  intro s i hb j hj
  obtain ⟨idx, hhidden, hexec⟩ := exec_hidden_read hj
  rw [hexec, memRead_hidden hb hhidden]

/-! ### Host writes (R63, R92, R114) -/

/-- Every spelling of a write to `CMD` is dropped while busy (R110, R114). -/
theorem exec_of_writesCmd_busy {v : Word} {i : Instr} {s : State} (h : WritesCmd v i) (hb : s.busy = true) :
    exec i s = .next (setBusyReject s) := by
  rw [exec_of_writesCmd h, hostCommand, if_pos hb]

/-- Settles O13: each of the nine instructions is a write to `CMD` or to a duration entry. -/
theorem writesWhileBusyAreDropped : Obligations.WritesWhileBusyAreDropped := by
  unfold Obligations.WritesWhileBusyAreDropped
  intro s i v hb j hj
  have hkind : (∃ u, WritesCmd u j) ∨ WritesDuration v j := by
    simp only [List.mem_cons, List.not_mem_nil, or_false] at hj
    obtain rfl | rfl | rfl | rfl | rfl | rfl | rfl | rfl | rfl := hj <;> simp [WritesCmd, WritesDuration]
  obtain ⟨u, hcmd⟩ | hduration := hkind
  · exact exec_of_writesCmd_busy hcmd hb
  · exact exec_of_writesDuration_busy hduration hb

/-- Settles O21: of the cases of a host write only the one that stores nothing is left. -/
theorem writesElsewhereAreIgnored : Obligations.WritesElsewhereAreIgnored := by
  unfold Obligations.WritesElsewhereAreIgnored
  intro s idx v hne hrange
  have hout : ¬ idx.InWindow := by rintro ⟨hlo, hhi⟩; omega
  obtain ⟨h0, -⟩ | ⟨-, -, hsame⟩ | ⟨hin, -⟩ | ⟨i, rfl, -⟩ | ⟨i, rfl, -⟩ := memWrite_cases idx v s
  · exact absurd h0 hne
  · exact congrArg Host.Outcome.next hsame
  · exact absurd hin hout
  · exact absurd (pdlIndex_inWindow i) hout
  · exact absurd (pdhIndex_inWindow i) hout

theorem exec_wrPdl_idle (i : Pair) (v : Word) {s : State} (hb : s.busy = false) :
    exec (.wrPdl i v) s = .next { s with pdl := s.pdl.set i (storedCount v) } :=
  congrArg Host.Outcome.next (memWrite_pdlIndex hb)

theorem exec_wrPdh_idle (i : Pair) (v : Word) {s : State} (hb : s.busy = false) :
    exec (.wrPdh i v) s = .next { s with pdh := s.pdh.set i (storedCount v) } :=
  congrArg Host.Outcome.next (memWrite_pdhIndex hb)

/-- The entry a host write names holds the low 16 bits of the value (R63, R92). -/
theorem toNat_getElem_set_storedCount (f : PulseFile) (i : Pair) (v : Word) :
    (f.set i (storedCount v))[i].toNat = v.toNat % 65536 := by
  rw [getElem_set, if_pos rfl, storedCount_toNat]

theorem getElem_set_ne {f : PulseFile} {i j : Pair} (x : Count) (hij : i ≠ j) : (f.set i x)[j] = f[j] := by
  rw [getElem_set, if_neg hij]

/-- Settles O20: the write sets one entry of one file. -/
theorem durationWritesStoreSixteenBits : Obligations.DurationWritesStoreSixteenBits := by
  unfold Obligations.DurationWritesStoreSixteenBits
  intro s i v hb
  constructor
  · exact ⟨_, exec_wrPdl_idle i v hb, rfl, toNat_getElem_set_storedCount s.pdl i v, fun j hj => getElem_set_ne _ hj.symm⟩
  · exact ⟨_, exec_wrPdh_idle i v hb, rfl, toNat_getElem_set_storedCount s.pdh i v, fun j hj => getElem_set_ne _ hj.symm⟩

/-- Settles O22: a duration write leaves `BUSY` down, so the reads after it return the two files as it left them. -/
theorem durationReadsReturnTheLastWrite : Obligations.DurationReadsReturnTheLastWrite := by
  unfold Obligations.DurationReadsReturnTheLastWrite
  intro s t i j v hb
  constructor
  · intro hwrite
    rw [exec_wrPdl_idle i v hb] at hwrite
    cases hwrite
    have hsame := toNat_getElem_set_storedCount s.pdl i v
    have hother (hij : i ≠ j) := congrArg BitVec.toNat (getElem_set_ne (f := s.pdl) (storedCount v) hij)
    exact ⟨exec_rdPdl_idle hb hsame, fun hij => exec_rdPdl_idle hb (hother hij), exec_rdPdh_idle hb rfl⟩
  · intro hwrite
    rw [exec_wrPdh_idle i v hb] at hwrite
    cases hwrite
    have hsame := toNat_getElem_set_storedCount s.pdh i v
    have hother (hij : i ≠ j) := congrArg BitVec.toNat (getElem_set_ne (f := s.pdh) (storedCount v) hij)
    exact ⟨exec_rdPdh_idle hb hsame, fun hij => exec_rdPdh_idle hb (hother hij), exec_rdPdl_idle hb rfl⟩

end Sys2Proof.Machine

/-! PROOFS of the statements on the encoding (30_encoding.md): the two round trips of the decoder, the words that are no
instruction, the two spellings of a command, and the round trip of a frame through the pulse durations. -/

namespace Sys2Proof

/-! ### The decoder on each row's own words (R64, R90, R91, R94) -/

theorem decodeHt41_write (idx : Index) (data : Word) :
    decodeHt41 (ht41 true idx data) = .ok (decodeWrite idx data) := by
  simp [decodeHt41]

theorem decodeHt41_read (idx : Index) : decodeHt41 (ht41 false idx 0#32) = .ok (decodeRead idx) := by
  simp [decodeHt41]

/-- Only a read with a data field is no transaction (R94 (c)). -/
theorem decodeHt41_eq_error_iff (w : BitVec 41) :
    decodeHt41 w = .error .readDataNotZero ↔ ht41K w = false ∧ ht41Data w ≠ 0#32 := by
  unfold decodeHt41
  cases ht41K w with
  | true => simp
  | false => by_cases hd : ht41Data w = 0#32 <;> simp [hd]

theorem decodeRead_pdlIndex (i : Pair) : decodeRead (pdlIndex i) = .rdPdl i := by simp [decodeRead]

theorem decodeRead_pdhIndex (i : Pair) : decodeRead (pdhIndex i) = .rdPdh i := by simp [decodeRead]

theorem decodeWrite_pdlIndex (i : Pair) (data : Word) : decodeWrite (pdlIndex i) data = .wrPdl i data := by
  simp [decodeWrite]

theorem decodeWrite_pdhIndex (i : Pair) (data : Word) : decodeWrite (pdhIndex i) data = .wrPdh i data := by
  simp [decodeWrite]

theorem wf_illegal_iff (opc : Word) : (Instr.illegal opc).wf = true ↔ opc ≠ 1#32 ∧ opc ≠ 2#32 := decide_eq_true_iff

theorem wf_rd_iff (idx : Index) : (Instr.rd idx).wf = true ↔ 0x08 < idx.toNat ∧ ¬ idx.InWindow := decide_eq_true_iff

theorem wf_wr_iff (idx : Index) (data : Word) :
    (Instr.wr idx data).wf = true ↔ ¬ idx.InWindow ∧ ¬ (idx = 0x00#8 ∧ (data = 1#32 ∨ data = 2#32)) :=
  decide_eq_true_iff

/-- The words of ILLEGAL decode to it while idle: they are not those of READ and DECODE (R113). -/
theorem decodeCmd_of_wf {opc : Word} (h : (Instr.illegal opc).wf = true) : decodeCmd false opc = .illegal opc := by
  obtain ⟨h1, h2⟩ := (wf_illegal_iff opc).1 h
  simp [decodeCmd, h1, h2]

/-- The words of RD decode to it: no register and no duration entry has such an index (R64). -/
theorem decodeRead_of_wf {idx : Index} (h : (Instr.rd idx).wf = true) : decodeRead idx = .rd idx := by
  obtain ⟨habove, hout⟩ := (wf_rd_iff idx).1 h
  have hne (k : Index) (hk : k.toNat ≤ 0x08) : idx ≠ k := by rintro rfl; omega
  rw [decodeRead, (windowPair_eq_none_iff idx).2 hout]
  simp [hne]

/-- The words of WR decode to it: they name no duration entry and spell neither command (R64). -/
theorem decodeWrite_of_wf {idx : Index} {data : Word} (h : (Instr.wr idx data).wf = true) :
    decodeWrite idx data = .wr idx data := by
  obtain ⟨hout, hcmd⟩ := (wf_wr_iff idx data).1 h
  rw [decodeWrite, (windowPair_eq_none_iff idx).2 hout]
  simp only
  rw [if_neg fun ⟨hidx, h1⟩ => hcmd ⟨hidx, .inl h1⟩, if_neg fun ⟨hidx, h2⟩ => hcmd ⟨hidx, .inr h2⟩]

/-! ### Decoding what was encoded -/

theorem fitsBusy_iff {i : Instr} {busy b : Bool} (h : i.needsBusy = some b) : i.fitsBusy busy = true ↔ b = busy := by
  simp only [Instr.fitsBusy, h, decide_eq_true_iff]

/-- Settles O1, row by row: the general rows RD, WR and ILLEGAL by their lemma on well-formed words, the window rows by the
index of their pair, and every other row has one word. -/
theorem decodeOfEncodeIsTheInstruction : Obligations.DecodeOfEncodeIsTheInstruction := by
  unfold Obligations.DecodeOfEncodeIsTheInstruction
  intro i busy hwf hbusy
  cases i with
  | read | decode =>
    obtain rfl := (fitsBusy_iff rfl).1 hbusy
    rfl
  | illegal opc =>
    obtain rfl := (fitsBusy_iff rfl).1 hbusy
    exact congrArg Except.ok (decodeCmd_of_wf hwf)
  | busyReject opc =>
    obtain rfl := (fitsBusy_iff rfl).1 hbusy
    rfl
  | rd idx => exact (decodeHt41_read idx).trans (congrArg Except.ok (decodeRead_of_wf hwf))
  | wr idx data => exact (decodeHt41_write idx data).trans (congrArg Except.ok (decodeWrite_of_wf hwf))
  | rdPdl i => exact (decodeHt41_read _).trans (congrArg Except.ok (decodeRead_pdlIndex i))
  | rdPdh i => exact (decodeHt41_read _).trans (congrArg Except.ok (decodeRead_pdhIndex i))
  | wrPdl i data => exact (decodeHt41_write _ data).trans (congrArg Except.ok (decodeWrite_pdlIndex i data))
  | wrPdh i data => exact (decodeHt41_write _ data).trans (congrArg Except.ok (decodeWrite_pdhIndex i data))
  | rdCmd | rdStatus | rdThresh | rdFrameHi | rdFrameLo | rdHum | rdTmag | rdTempC | rdTempF =>
    exact decodeHt41_read _
  | wrCmdRead | wrCmdDecode => exact decodeHt41_write _ _
  | idle | wakeHigh | wakeLow | handover | settle | readyWait | capLow | capHigh | thresh | bitdec | check | calib
  | phase12 | phase13 | phase14 | phase15 => rfl

/-! ### Encoding what was decoded -/

/-- The word is the instruction's own, and no narrower row's, while `BUSY` has this value (R80, R110). -/
structure IsWordOf (busy : Bool) (w : TableWord) (i : Instr) : Prop where
  encode_eq : encode i = w
  wf : i.wf = true
  fitsBusy : i.fitsBusy busy = true

theorem isWordOf_decodeCmd (busy : Bool) (opc : Word) : IsWordOf busy (.cmd32 opc) (decodeCmd busy opc) := by
  cases busy with
  | true => exact ⟨rfl, rfl, rfl⟩
  | false =>
    by_cases h : opc = 1#32 ∨ opc = 2#32
    · obtain rfl | rfl := h <;> exact ⟨rfl, rfl, rfl⟩
    · have hwf : (Instr.illegal opc).wf = true := (wf_illegal_iff opc).2 (not_or.1 h)
      rw [decodeCmd_of_wf hwf]
      exact ⟨rfl, hwf, rfl⟩

/-- The indices of the registers (R64). -/
theorem register_index_cases {idx : Index} (h : idx.toNat ≤ 0x08) :
    idx = 0x00#8 ∨ idx = 0x01#8 ∨ idx = 0x02#8 ∨ idx = 0x03#8 ∨ idx = 0x04#8 ∨ idx = 0x05#8 ∨ idx = 0x06#8 ∨
      idx = 0x07#8 ∨ idx = 0x08#8 := by
  bv_omega

theorem isWordOf_decodeRead (busy : Bool) (idx : Index) :
    IsWordOf busy (.ht41 (ht41 false idx 0#32)) (decodeRead idx) := by
  by_cases hin : idx.InWindow
  · obtain ⟨i, rfl | rfl⟩ := pdlIndex_or_pdhIndex_of_inWindow hin
    · rw [decodeRead_pdlIndex]; exact ⟨rfl, rfl, rfl⟩
    · rw [decodeRead_pdhIndex]; exact ⟨rfl, rfl, rfl⟩
  · by_cases hreg : idx.toNat ≤ 0x08
    · obtain rfl | rfl | rfl | rfl | rfl | rfl | rfl | rfl | rfl := register_index_cases hreg <;> exact ⟨rfl, rfl, rfl⟩
    · have hwf : (Instr.rd idx).wf = true := (wf_rd_iff idx).2 ⟨Nat.lt_of_not_le hreg, hin⟩
      rw [decodeRead_of_wf hwf]
      exact ⟨rfl, hwf, rfl⟩

theorem isWordOf_decodeWrite (busy : Bool) (idx : Index) (data : Word) :
    IsWordOf busy (.ht41 (ht41 true idx data)) (decodeWrite idx data) := by
  by_cases hin : idx.InWindow
  · obtain ⟨i, rfl | rfl⟩ := pdlIndex_or_pdhIndex_of_inWindow hin
    · rw [decodeWrite_pdlIndex]; exact ⟨rfl, rfl, rfl⟩
    · rw [decodeWrite_pdhIndex]; exact ⟨rfl, rfl, rfl⟩
  · by_cases hcmd : idx = 0x00#8 ∧ (data = 1#32 ∨ data = 2#32)
    · obtain ⟨rfl, rfl | rfl⟩ := hcmd <;> exact ⟨rfl, rfl, rfl⟩
    · have hwf : (Instr.wr idx data).wf = true := (wf_wr_iff idx data).2 ⟨hin, hcmd⟩
      rw [decodeWrite_of_wf hwf]
      exact ⟨rfl, hwf, rfl⟩

theorem isWordOf_decodePhase (busy : Bool) (code : PhaseCode) : IsWordOf busy (.ph4 code) (decodePhase code) where
  encode_eq := Machine.encode_decodePhase code
  wf := by revert code; decide
  fitsBusy := by revert busy code; decide

/-- Settles O2, format by format: each decoder answers an instruction of whose row the word is. -/
theorem encodeOfDecodeIsTheWord : Obligations.EncodeOfDecodeIsTheWord := by
  unfold Obligations.EncodeOfDecodeIsTheWord
  intro busy w i hd
  have hword : IsWordOf busy w i := by
    cases w with
    | cmd32 opc => cases hd; exact isWordOf_decodeCmd busy opc
    | ph4 code => cases hd; exact isWordOf_decodePhase busy code
    | ht41 x =>
      change decodeHt41 x = .ok i at hd
      obtain ⟨idx, v, rfl, hx⟩ | ⟨idx, rfl, hx⟩ | hx := Machine.decodeHt41_cases x <;> rw [hx] at hd <;> cases hd
      · exact isWordOf_decodeWrite busy idx v
      · exact isWordOf_decodeRead busy idx
  exact ⟨hword.encode_eq, hword.wf, hword.fitsBusy⟩

/-! ### The words that are no instruction (R94 (c)) -/

/-- The fields of a read with data, in terms of the word's number (R91). -/
theorem readWithData_iff (x : BitVec 41) :
    x.toNat < 2 ^ 40 ∧ x.toNat % 2 ^ 32 ≠ 0 ↔ ht41K x = false ∧ ht41Data x ≠ 0#32 := by
  have hx := ht41_toNat (ht41K x) (ht41Idx x) (ht41Data x)
  rw [ht41_fields] at hx
  have hidx := (ht41Idx x).isLt
  have hdata := (ht41Data x).isLt
  have hzero : ht41Data x ≠ 0#32 ↔ (ht41Data x).toNat ≠ 0 := not_congr BitVec.toNat_inj.symm
  rw [hzero]
  cases hk : ht41K x with
  | true => rw [hk, Bool.toNat_true] at hx; simp; omega
  | false => rw [hk, Bool.toNat_false] at hx; simp; omega

/-- Settles O3: CMD32 and PH4 words always decode, and an HT41 word by its fields. -/
theorem onlyAReadWithDataIsRejected : Obligations.OnlyAReadWithDataIsRejected := by
  unfold Obligations.OnlyAReadWithDataIsRejected
  intro busy w readWithData
  cases w with
  | cmd32 opc => exact ⟨(by rintro ⟨x, hx, -⟩; cases hx), fun _ => ⟨decodeCmd busy opc, rfl⟩⟩
  | ph4 code => exact ⟨(by rintro ⟨x, hx, -⟩; cases hx), fun _ => ⟨decodePhase code, rfl⟩⟩
  | ht41 x =>
    have hiff : decodeHt41 x = .error .readDataNotZero ↔ x.toNat < 2 ^ 40 ∧ x.toNat % 2 ^ 32 ≠ 0 :=
      (decodeHt41_eq_error_iff x).trans (readWithData_iff x).symm
    constructor
    · rintro ⟨y, hy, hnumber⟩
      cases hy
      exact hiff.2 hnumber
    · intro hnot
      obtain ⟨idx, v, -, hx⟩ | ⟨idx, -, hx⟩ | hx := Machine.decodeHt41_cases x
      · exact ⟨_, hx⟩
      · exact ⟨_, hx⟩
      · exact absurd ⟨x, rfl, hiff.1 hx⟩ hnot

/-! ### The words the spec writes out (R21, R90, R91) -/

/-- Settles O4: the decoder computes on each of the words. -/
theorem specWordsDecodeAsWritten : Obligations.SpecWordsDecodeAsWritten := by
  unfold Obligations.SpecWordsDecodeAsWritten
  decide

end Sys2Proof

namespace Sys2Proof.Machine

/-! ### The two spellings of a command (R90, R91, R110) -/

/-- Settles O14: either spelling executes the write of R110 to `CMD`. -/
theorem bothSpellingsOfACommandAgree : Obligations.BothSpellingsOfACommandAgree := by
  unfold Obligations.BothSpellingsOfACommandAgree
  intro s v rest
  have hword (busy : Bool) : decode busy (.ht41 (ht41 true 0x00#8 v)) = .ok (decodeWrite 0x00#8 v) :=
    decodeHt41_write 0x00#8 v
  rw [step_cons rfl, step_cons rfl, onEvent_command, onEvent_transaction_of_decode (hword false), exec_decodeCmd,
    exec_decodeWrite]
  rfl

/-! ### The bits of the frame (R82, R161) -/

/-- The frame's bit of a payload pair is 1 exactly when the high duration is at least the threshold (R81, R82). -/
theorem frameOf_getLsbD_iff (thr : Count) (pdh : PulseFile) {i : Pair} (hi : 0 < i.val) :
    (frameOf thr pdh).getLsbD (40 - i.val) = true ↔ thr.toNat ≤ pdh[i].toNat := by
  rw [frameOf_getLsbD thr pdh i hi, bitOf, decide_eq_true_iff]

/-- Bit `7 - j` of `byte(k)` is `FRAME[39 - 8k - j]` (R25). -/
theorem frameByte_getLsbD (f : Frame) (k : Fin 5) (j : Fin 8) :
    (frameByte f k).getLsbD (7 - j.val) = f.getLsbD (40 - (8 * k.val + j.val + 1)) := by
  have hplace : 32 - 8 * k.val + (7 - j.val) = 40 - (8 * k.val + j.val + 1) := by omega
  rw [frameByte, BitVec.getLsbD_extractLsb', hplace]
  simp; omega

/-- Settles O32: the frame's bits by their lemma, and a byte's bits as bits of the frame. -/
theorem bitdecComparesEveryPayloadHigh : Obligations.BitdecComparesEveryPayloadHigh := by
  unfold Obligations.BitdecComparesEveryPayloadHigh
  intro s
  refine ⟨{ s with frame := frameOf s.thresh s.pdh, phase := 10#4 }, rfl, rfl, fun i hi => ?_, fun k j i hi => ?_⟩
  · exact frameOf_getLsbD_iff s.thresh s.pdh hi
  · rw [frameByte_getLsbD, ← hi]
    exact frameOf_getLsbD_iff s.thresh s.pdh (by omega)

/-! ### THRESH then BITDEC (R83, R84, R163) -/

/-- The two phases leave the threshold of the lows and the frame of the highs against it. -/
theorem thresh_then_bitdec {s t u : State} (ht : exec .thresh s = .next t) (hu : exec .bitdec t = .next u) :
    u.thresh = thresholdOf s.pdl ∧ u.frame = frameOf (thresholdOf s.pdl) s.pdh := by
  cases ht
  cases hu
  exact ⟨rfl, rfl⟩

/-- Entry 0 is no part of the threshold (R163 (b)). -/
theorem thresholdOf_congr {f g : PulseFile} (h : ∀ i : Pair, 0 < i.val → f[i] = g[i]) :
    thresholdOf f = thresholdOf g := by
  have hsum : lowSum f = lowSum g := by
    rw [lowSum_eq_sum, lowSum_eq_sum]
    exact Finset.sum_congr rfl fun k _ => congrArg BitVec.toNat (h k.succ k.val.succ_pos)
  rw [thresholdOf, thresholdOf, hsum]

/-- Entry 0 is no part of the frame (R163 (b)). -/
theorem frameOf_congr (thr : Count) {f g : PulseFile} (h : ∀ i : Pair, 0 < i.val → f[i] = g[i]) :
    frameOf thr f = frameOf thr g := by
  refine frame_ext fun i hi => ?_
  rw [frameOf_getLsbD thr f i hi, frameOf_getLsbD thr g i hi, h i hi]

/-- Settles O53: neither the threshold nor the frame looks at pair 0. -/
theorem frameDependsOnThePayloadAlone : Obligations.FrameDependsOnThePayloadAlone := by
  unfold Obligations.FrameDependsOnThePayloadAlone
  intro s s' t t' u u' hagree ht hu ht' hu'
  obtain ⟨hthresh, hframe⟩ := thresh_then_bitdec ht hu
  obtain ⟨hthresh', hframe'⟩ := thresh_then_bitdec ht' hu'
  have hthr : thresholdOf s.pdl = thresholdOf s'.pdl := thresholdOf_congr fun i hi => (hagree i hi).1
  have hbits := frameOf_congr (thresholdOf s'.pdl) fun i hi => (hagree i hi).2
  exact ⟨by rw [hthresh, hthresh', hthr], by rw [hframe, hframe', hthr, hbits]⟩

/-- Settles O54: each bit of the decoded frame is the comparison that the synthesised high was chosen for. -/
theorem synthesisedDurationsDecodeToTheFrame : Obligations.SynthesisedDurationsDecodeToTheFrame := by
  unfold Obligations.SynthesisedDurationsDecodeToTheFrame
  intro s t u f hsynth ht hu
  obtain ⟨-, hframe⟩ := thresh_then_bitdec ht hu
  rw [hframe]
  refine frame_ext fun i hi => ?_
  obtain ⟨hone, hzero⟩ := hsynth i hi
  have hbit := frameOf_getLsbD_iff (thresholdOf s.pdl) s.pdh hi
  rw [thresholdOf_toNat, lowSum_eq_sum] at hbit
  cases hf : f.getLsbD (40 - i.val) with
  | true => exact hbit.2 (hone hf)
  | false => exact Bool.eq_false_iff.2 fun h => absurd (hbit.1 h) (Nat.not_le.2 (hzero hf))

end Sys2Proof.Machine

/-! PROOFS of the statements on host commands: what an idle machine makes of a value written to `CMD`, and the whole
of a DECODE run. -/

namespace Sys2Proof.Machine

/-! ### Writes to `CMD` while idle (R110 to R113) -/

theorem hostCommand_read {s : State} (hb : s.busy = false) : hostCommand 1#32 s = acceptRead s := by
  simp [hostCommand, hb]

theorem hostCommand_decode {s : State} (hb : s.busy = false) : hostCommand 2#32 s = acceptDecode s := by
  simp [hostCommand, hb]

theorem hostCommand_illegal {v : Word} {s : State} (hb : s.busy = false) (h1 : v ≠ 1#32) (h2 : v ≠ 2#32) :
    hostCommand v s = setIllegal s := by
  simp [hostCommand, hb, h1, h2]

/-- Settles O10: both instructions write 1 to `CMD`. -/
theorem acceptedReadStartsTheWakeSequence : Obligations.AcceptedReadStartsTheWakeSequence := by
  unfold Obligations.AcceptedReadStartsTheWakeSequence
  intro s i hi hb
  have hw : WritesCmd 1#32 i := .inr (.inr (.inr (.inl ⟨List.mem_pair.1 hi, rfl⟩)))
  rw [exec_of_writesCmd hw, hostCommand_read hb]
  rfl

/-- Settles O11: both instructions write 2 to `CMD`. -/
theorem acceptedDecodeStartsAtThresh : Obligations.AcceptedDecodeStartsAtThresh := by
  unfold Obligations.AcceptedDecodeStartsAtThresh
  intro s i hi hb
  have hw : WritesCmd 2#32 i := .inr (.inr (.inr (.inr ⟨List.mem_pair.1 hi, rfl⟩)))
  rw [exec_of_writesCmd hw, hostCommand_decode hb]
  rfl

/-- Settles O12: both instructions write the value to `CMD`. -/
theorem illegalCommandSetsOnlyIllcmd : Obligations.IllegalCommandSetsOnlyIllcmd := by
  unfold Obligations.IllegalCommandSetsOnlyIllcmd
  intro s opc hb h1 h2
  have hexec {i : Instr} (hw : WritesCmd opc i) : exec i s = .next { s with illcmd := true } := by
    rw [exec_of_writesCmd hw, hostCommand_illegal hb h1 h2]
    rfl
  exact ⟨hexec (.inl rfl), hexec (.inr (.inr (.inl rfl)))⟩

/-! ### A DECODE run (R112, R160 to R202) -/

/-- A DECODE run that has come to CHECK: accepted, the threshold and the frame of the durations in their registers, the
sample of the last tick on the line and the given events still to come. -/
def State.decoded (s : State) (sample : Bool) (rest : List Event) : State :=
  { acceptDecode s with
    thresh := thresholdOf s.pdl, frame := frameOf (thresholdOf s.pdl) s.pdh
    phase := 10#4, lineIn := sample, script := rest }

/-- A DECODE in store is accepted by an idle machine (R112). -/
theorem step_acceptDecode {s : State} {rest : List Event} (hb : s.busy = false)
    (hs : s.script = .command 2#32 :: rest) : step s = .next (acceptDecode { s with script := rest }) := by
  rw [step_cons hs, onEvent_command, exec_decodeCmd, hostCommand_decode (s := { s with script := rest }) hb]

/-- A tick in store executes the phase of `PHASE` with its sample on the line. -/
theorem step_tick {s : State} {sample : Bool} {rest : List Event} (hs : s.script = .tick false sample :: rest) :
    step s = exec (decodePhase s.phase) (sampleLine sample { s with script := rest }) := by
  rw [step_cons hs, onEvent_tick]

/-- The command, the tick in THRESH and the tick in BITDEC bring the run to CHECK. -/
theorem runSteps_decoded {s : State} {a b : Bool} {rest : List Event} (hb : s.busy = false)
    (hs : s.script = .command 2#32 :: .tick false a :: .tick false b :: rest) :
    runSteps 3 s = .next (s.decoded b rest) := by
  rw [runSteps_succ (step_acceptDecode hb hs), runSteps_succ (step_tick rfl), runSteps_succ (step_tick rfl)]
  rfl

/-- The tick in CHECK passes the decoded frame on, or ends the run with the mismatch (R170). -/
theorem step_decoded (s : State) (b c : Bool) (rest : List Event) :
    step (s.decoded b (.tick false c :: rest)) =
      .next (if ChecksumOk (frameOf (thresholdOf s.pdl) s.pdh) then { s.decoded c rest with phase := 11#4 }
        else raiseChecksumMismatch (s.decoded c rest)) :=
  step_tick rfl

/-- With a matching checksum the run ends after the tick in CALIB (R181). -/
theorem runSteps_decode_ok {s : State} {a b c d : Bool} {rest : List Event} (hb : s.busy = false)
    (hs : s.script = .command 2#32 :: .tick false a :: .tick false b :: .tick false c :: .tick false d :: rest)
    (hok : ChecksumOk (frameOf (thresholdOf s.pdl) s.pdh)) :
    runSteps 5 s = .next (endRun (setReading (s.decoded d rest))) := by
  have hcheck := step_decoded s b c (.tick false d :: rest)
  rw [if_pos hok] at hcheck
  rw [runSteps_add (k := 2) (runSteps_decoded hb hs), runSteps_succ hcheck, runSteps_succ (step_tick rfl)]
  rfl

/-- With a checksum that does not match the run ends after the tick in CHECK (R202). -/
theorem runSteps_decode_mismatch {s : State} {a b c : Bool} {rest : List Event} (hb : s.busy = false)
    (hs : s.script = .command 2#32 :: .tick false a :: .tick false b :: .tick false c :: rest)
    (hbad : ¬ ChecksumOk (frameOf (thresholdOf s.pdl) s.pdh)) :
    runSteps 4 s = .next (raiseChecksumMismatch (s.decoded c rest)) := by
  have hcheck := step_decoded s b c rest
  rw [if_neg hbad] at hcheck
  rw [runSteps_add (k := 1) (runSteps_decoded hb hs), runSteps_succ hcheck]
  rfl

/-- `HUM` holds the humidity of the frame with nothing lost to the register's width (R183). -/
theorem setReading_hum_toNat (s : State) : (setReading s).hum.toNat = humTenths s.frame := by
  have := humTenths_le s.frame
  rw [setReading_hum, BitVec.toNat_ofNat, Nat.mod_eq_of_lt (by omega)]

/-- `TMAG` holds the temperature magnitude of the frame with nothing lost to the register's width (R183). -/
theorem setReading_tmag_toNat (s : State) : (setReading s).tmag.toNat = tempMagnitude s.frame := by
  have := tempMagnitude_le s.frame
  rw [setReading_tmag, BitVec.toNat_ofNat, Nat.mod_eq_of_lt (by omega)]

/-- Settles O56: each outcome of the checksum is the end of one run, and the fields are those of its last state. -/
theorem decodeRunEndsInAReadingOrAMismatch : Obligations.DecodeRunEndsInAReadingOrAMismatch := by
  unfold Obligations.DecodeRunEndsInAReadingOrAMismatch
  intro s a b c d rest hb hs
  refine ⟨fun hok => ⟨_, runSteps_decode_ok hb hs hok, ?_⟩,
    fun hbad => ⟨_, runSteps_decode_mismatch hb hs hbad, ?_⟩⟩
  · exact ⟨rfl, rfl, rfl, rfl, rfl, rfl, rfl, rfl, rfl, setReading_hum_toNat _, setReading_tmag_toNat _,
      decide_eq_true_iff, decide_eq_true_iff, rfl, rfl, rfl, rfl, rfl, rfl, rfl, rfl, rfl⟩
  · exact ⟨rfl, rfl, rfl, rfl, rfl, rfl, rfl, rfl, rfl, readingCleared_acceptDecode s, rfl, rfl, rfl, rfl, rfl, rfl⟩

end Sys2Proof.Machine

/-! PROOFS of the statements on the wake sequence and the handover (41_wake_handover.md): what one tick of IDLE, WAKE_HIGH,
WAKE_LOW, HANDOVER and SETTLE does, and what the line sees in a READ run. -/

namespace Sys2Proof.Machine

/-! ### One tick of each phase (R130 to R134) -/

/-- Settles O23: the state IDLE answers is its own. -/
theorem idleChangesNothing : Obligations.IdleChangesNothing := fun _ => rfl

/-- Settles O26: R133's four writes are the whole of the phase's meaning. -/
theorem handoverRaisesPriorityAndReleasesTheLine : Obligations.HandoverRaisesPriorityAndReleasesTheLine := fun _ => rfl

/-- A phase of `n` ticks makes `leave` on the tick where `CNT + 1 >= n`, and on an earlier tick it counts up by exactly one
and changes nothing else (R131, R132, R134). -/
theorem exec_of_waitTicks {i : Instr} {n : BitVec 32} {leave : State → State} {s : State}
    (hi : exec i s = .next (waitTicks n leave s)) :
    (n.toNat ≤ s.cnt.toNat + 1 → exec i s = .next (leave { s with cnt := 0#32 })) ∧
    (s.cnt.toNat + 1 < n.toNat →
      ∃ t, exec i s = .next t ∧ t = { s with cnt := t.cnt } ∧ t.cnt.toNat = s.cnt.toNat + 1) := by
  obtain ⟨hlast, h⟩ | ⟨hearly, h⟩ := waitTicks_cases n leave s <;> rw [hi, h]
  · exact ⟨fun _ => rfl, fun _ => by omega⟩
  · exact ⟨fun _ => by omega, fun _ => ⟨_, rfl, rfl, cnt_add_one hearly⟩⟩

/-- Settles O24: WAKE_HIGH lasts `W` ticks and leaves by driving the line low. -/
theorem wakeHighHoldsThenDrivesLow : Obligations.WakeHighHoldsThenDrivesLow := fun s =>
  exec_of_waitTicks (i := .wakeHigh) (leave := fun t => { t with lineOut := false, phase := 2#4 }) (s := s) rfl

/-- Settles O25: WAKE_LOW lasts `L` ticks and leaves to HANDOVER. -/
theorem wakeLowHolds : Obligations.WakeLowHolds := fun s =>
  exec_of_waitTicks (i := .wakeLow) (leave := fun t => { t with phase := 3#4 }) (s := s) rfl

/-- Settles O27: SETTLE lasts `S` ticks and leaves to READY_WAIT. -/
theorem settleDelays : Obligations.SettleDelays := fun s =>
  exec_of_waitTicks (i := .settle) (leave := fun t => { t with phase := 5#4 }) (s := s) rfl

/-! ### A READ run, tick by tick (R135) -/

/-- How far a READ run has come with `k` ticks behind it, by its phase up to the first tick that looks at the line, and as
a released line from then on, whatever the run does (R131 to R135). -/
inductive State.WakeProgress (s : State) (k : Nat) : Prop
  | wakeHigh (hp : s.phase = 1#4) (hk : k = s.cnt.toNat)
  | wakeLow (hp : s.phase = 2#4) (hk : k = s.params.wakeHighTicks.toNat + s.cnt.toNat)
  | handover (hp : s.phase = 3#4) (hk : k = s.params.wakeHighTicks.toNat + s.params.wakeLowTicks.toNat)
  | settle (hp : s.phase = 4#4)
      (hk : k = s.params.wakeHighTicks.toNat + s.params.wakeLowTicks.toNat + 1 + s.cnt.toNat) (hprio : s.prio = true)
  | readyWait (hp : s.phase = 5#4) (hcnt : s.cnt = 0#32)
      (hk : k = s.params.wakeHighTicks.toNat + s.params.wakeLowTicks.toNat + 1 + s.params.settleTicks.toNat)
      (hprio : s.prio = true)
  | listening
      (hk : s.params.wakeHighTicks.toNat + s.params.wakeLowTicks.toNat + 1 + s.params.settleTicks.toNat < k)
      (hoe : s.lineOe = false) (hout : s.lineOut = false)

/-- The progress of a run does not look at the sample, nor at the events to come. -/
theorem wakeProgress_takeTick {s : State} {k : Nat} (h : s.WakeProgress k) (sample : Bool) (rest : List Event) :
    (sampleLine sample { s with script := rest }).WakeProgress k := by
  cases h with
  | wakeHigh hp hk => exact .wakeHigh hp hk
  | wakeLow hp hk => exact .wakeLow hp hk
  | handover hp hk => exact .handover hp hk
  | settle hp hk hprio => exact .settle hp hk hprio
  | readyWait hp hcnt hk hprio => exact .readyWait hp hcnt hk hprio
  | listening hk hoe hout => exact .listening hk hoe hout

/-- No phase drives a line that is released: acceptance of READ alone does (R36). -/
theorem released_of_phaseEffect {i : Instr} {s t : State} (he : PhaseEffect i s t) (hoe : s.lineOe = false)
    (hout : s.lineOut = false) : t.lineOe = false ∧ t.lineOut = false := by
  cases he with
  | wakeHighEnds => exact ⟨hoe, rfl⟩
  | handover => exact ⟨rfl, hout⟩
  | _ => exact ⟨hoe, hout⟩

/-- On the last tick of a timed phase exactly the phase's length has passed: no counter goes past it (R131, R132, R134). -/
theorem cnt_add_one_eq_of_last {s : State} {n : BitVec 32} (h : s.Inv) (hn : s.holdTicks = some n)
    (hlast : n.toNat ≤ s.cnt.toNat + 1) : s.cnt.toNat + 1 = n.toNat := by
  have := h.cnt_lt n hn
  omega

/-- From SETTLE on the line is released (R36, R43 (j)). -/
theorem released_of_inv {s : State} (h : s.Inv) (hp : 4 ≤ s.phase.toNat) : s.lineOe = false ∧ s.lineOut = false := by
  refine ⟨Bool.eq_false_iff.2 fun hup => ?_, Bool.eq_false_iff.2 fun hup => ?_⟩
  · have := h.lineOe_iff.1 hup
    omega
  · rw [h.lineOut_iff.1 hup] at hp
    exact absurd hp (by decide)

/-- A tick brings the run one tick further. -/
theorem wakeProgress_succ {s t : State} {k : Nat} (h : s.Inv) (hprog : s.WakeProgress k)
    (ht : exec (decodePhase s.phase) s = .next t) : t.WakeProgress (k + 1) := by
  have hparams := (environment_eq_iff.1 (exec_decodePhase_environment ht)).1
  have he := phaseEffect_of_exec (encode_decodePhase s.phase) ht
  cases hprog with
  | wakeHigh hp hk =>
    rw [hp] at he
    change PhaseEffect .wakeHigh s t at he
    cases he with
    | wakeHighCounts hc => exact .wakeHigh hp (by rw [hk, cnt_add_one hc])
    | wakeHighEnds hc =>
      have hlast := cnt_add_one_eq_of_last h (by simp [State.holdTicks, hp]) hc
      exact .wakeLow rfl (by rw [hk, hlast]; rfl)
  | wakeLow hp hk =>
    rw [hp] at he
    change PhaseEffect .wakeLow s t at he
    cases he with
    | wakeLowCounts hc => exact .wakeLow hp (by rw [hk, cnt_add_one hc, Nat.add_assoc])
    | wakeLowEnds hc =>
      have hlast := cnt_add_one_eq_of_last h (by simp [State.holdTicks, hp]) hc
      exact .handover rfl (by rw [hk, Nat.add_assoc, hlast])
  | handover hp hk =>
    rw [hp] at he
    change PhaseEffect .handover s t at he
    cases he
    exact .settle rfl (by rw [hk]; rfl) rfl
  | settle hp hk hprio =>
    rw [hp] at he
    change PhaseEffect .settle s t at he
    cases he with
    | settleCounts hc => exact .settle hp (by rw [hk, cnt_add_one hc, Nat.add_assoc]) hprio
    | settleEnds hc =>
      have hlast := cnt_add_one_eq_of_last h (by simp [State.holdTicks, hp]) hc
      exact .readyWait rfl rfl (by rw [hk, Nat.add_assoc, hlast]) hprio
  | readyWait hp hcnt hk hprio =>
    obtain ⟨hoe, hout⟩ := released_of_inv h (by simp [hp])
    obtain ⟨hoe', hout'⟩ := released_of_phaseEffect he hoe hout
    exact .listening (by rw [hparams]; omega) hoe' hout'
  | listening hk hoe hout =>
    obtain ⟨hoe', hout'⟩ := released_of_phaseEffect he hoe hout
    exact .listening (by rw [hparams]; omega) hoe' hout'

/-- In a good state a tick in store executes the phase of `PHASE` and leads to a good state with the other events still to
come. -/
theorem step_tick_of_inv {s : State} {sample : Bool} {rest : List Event} (h : s.Inv)
    (hs : s.script = .tick false sample :: rest) :
    ∃ t, step s = .next t ∧ exec (decodePhase s.phase) (sampleLine sample { s with script := rest }) = .next t ∧
      t.Inv ∧ t.params = s.params ∧ t.script = rest := by
  have hu : (sampleLine sample { s with script := rest }).Inv :=
    inv_withUnread h s.illcmd s.busyrej sample s.hostData rest s.draws
  obtain ⟨t, ht, he⟩ := exec_decodePhase_next hu
  obtain ⟨hparams, -, hscript, -, -⟩ := environment_eq_iff.1 (exec_decodePhase_environment ht)
  exact ⟨t, (step_tick hs).trans ht, ht, inv_of_phaseEffect hu he, hparams, hscript⟩

theorem ticksOf_append (xs ys : List Bool) : ticksOf (xs ++ ys) = ticksOf xs ++ ticksOf ys := List.map_append

/-- As many ticks bring the run as much further. -/
theorem runSteps_wakeProgress {s : State} {samples : List Bool} {rest : List Event} {k : Nat} (h : s.Inv)
    (hprog : s.WakeProgress k) (hs : s.script = ticksOf samples ++ rest) :
    ∃ t, runSteps samples.length s = .next t ∧ t.Inv ∧ t.params = s.params ∧ t.WakeProgress (k + samples.length) := by
  induction samples generalizing s k with
  | nil => exact ⟨s, rfl, h, rfl, hprog⟩
  | cons b bs ih =>
    obtain ⟨u, hstep, hexec, hu, huparams, huscript⟩ := step_tick_of_inv h hs
    have huprog : u.WakeProgress (k + 1) :=
      wakeProgress_succ (inv_withUnread h s.illcmd s.busyrej b s.hostData (ticksOf bs ++ rest) s.draws)
        (wakeProgress_takeTick hprog b (ticksOf bs ++ rest)) hexec
    obtain ⟨t, hrun, ht, htparams, htprog⟩ := ih hu huprog huscript
    refine ⟨t, ?_, ht, htparams.trans huparams, ?_⟩
    · rw [List.length_cons, runSteps_succ hstep, hrun]
    · rwa [List.length_cons, Nat.add_comm bs.length, ← Nat.add_assoc]

/-- A READ in store is accepted by an idle machine (R111). -/
theorem step_acceptRead {s : State} {rest : List Event} (hb : s.busy = false)
    (hs : s.script = .command 1#32 :: rest) : step s = .next (acceptRead { s with script := rest }) := by
  rw [step_cons hs, onEvent_command, exec_decodeCmd, hostCommand_read (s := { s with script := rest }) hb]

/-- After READ and `k` ticks the run has come `k` ticks far. -/
theorem runSteps_read_wakeProgress {s : State} {samples : List Bool} {rest : List Event} {k : Nat} (h : s.Inv)
    (hb : s.busy = false) (hs : s.script = .command 1#32 :: ticksOf samples ++ rest) (hk : k ≤ samples.length) :
    ∃ t, runSteps (k + 1) s = .next t ∧ t.Inv ∧ t.params = s.params ∧ t.WakeProgress k := by
  obtain ⟨taken, later, rfl, rfl⟩ : ∃ xs ys, samples = xs ++ ys ∧ k = xs.length :=
    ⟨samples.take k, samples.drop k, (List.take_append_drop k samples).symm, (List.length_take_of_le hk).symm⟩
  rw [List.cons_append, ticksOf_append, List.append_assoc] at hs
  have hevents := inv_withUnread h s.illcmd s.busyrej s.lineIn s.hostData (ticksOf taken ++ (ticksOf later ++ rest)) s.draws
  obtain ⟨t, hrun, ht, hparams, hprog⟩ := runSteps_wakeProgress (k := 0) (inv_acceptRead hevents hb) (.wakeHigh rfl rfl) rfl
  rw [Nat.zero_add] at hprog
  exact ⟨t, (runSteps_succ (step_acceptRead hb hs)).trans hrun, ht, hparams, hprog⟩

/-- While the block drives the line, in WAKE_HIGH and after it (R36, R37, R40). -/
theorem ports_of_driven {s : State} (h : s.Inv) (hp : 1 ≤ s.phase.toNat ∧ s.phase.toNat ≤ 3) :
    ports s = { lineOut := s.phase = 1#4, lineOe := true, prioReq := false, busy := true, done := false } := by
  have hbusy : s.busy = true := h.busy_iff.2 fun h0 => by simp [h0] at hp
  have hprio : s.prio = false := Bool.eq_false_iff.2 fun hup => by
    have := h.prio_phase hup
    omega
  have hout : s.lineOut = decide (s.phase = 1#4) := by rw [Bool.eq_iff_iff, h.lineOut_iff, decide_eq_true_iff]
  rw [ports, hout, h.lineOe_iff.2 hp, hprio, hbusy, (running_of_inv h hbusy).done]

/-- Settles O57: each clause is an interval of `k`, and the run's progress says which phase the interval is. -/
theorem wakeWaveformIsAsLongAsTheParametersSay : Obligations.WakeWaveformIsAsLongAsTheParametersSay := by
  unfold Obligations.WakeWaveformIsAsLongAsTheParametersSay
  intro s samples rest k h hb hs hk
  obtain ⟨t, hrun, ht, hparams, hprog⟩ := runSteps_read_wakeProgress h hb hs hk
  dsimp only
  rw [← hparams]
  refine ⟨t, hrun, ?_⟩
  cases hprog with
  | wakeHigh hp hk =>
    have hcnt := ht.cnt_lt t.params.wakeHighTicks (by simp [State.holdTicks, hp])
    have hports := ports_of_driven ht (by simp [hp])
    exact ⟨fun _ => by rw [hports, hp]; rfl, by omega, by omega, by omega, by omega⟩
  | wakeLow hp hk =>
    have hcnt := ht.cnt_lt t.params.wakeLowTicks (by simp [State.holdTicks, hp])
    have hports := ports_of_driven ht (by simp [hp])
    exact ⟨by omega, fun _ _ => by rw [hports, hp]; rfl, by omega, by omega, by omega⟩
  | handover hp hk =>
    have hports := ports_of_driven ht (by simp [hp])
    exact ⟨by omega, fun _ _ => by rw [hports, hp]; rfl, by omega, by omega, by omega⟩
  | settle hp hk hprio =>
    have hcnt := ht.cnt_lt t.params.settleTicks (by simp [State.holdTicks, hp])
    exact ⟨by omega, by omega, fun _ => released_of_inv ht (by simp [hp]), fun _ _ => hprio, by omega⟩
  | readyWait hp hcnt0 hk hprio =>
    exact ⟨by omega, by omega, fun _ => released_of_inv ht (by simp [hp]), fun _ _ => hprio, fun _ => ⟨hp, hcnt0⟩⟩
  | listening hk hoe hout => exact ⟨by omega, by omega, fun _ => ⟨hoe, hout⟩, by omega, by omega⟩

end Sys2Proof.Machine

/-! PROOFS of the statements on capture (42_capture.md): what one tick of READY_WAIT, CAP_LOW and CAP_HIGH does, and what a
whole waveform leaves in the duration files. -/

namespace Sys2Proof.Machine

/-! ### One tick of each phase (R140 to R142) -/

/-- READY_WAIT ends on a Low sample (R140). -/
theorem exec_readyWait_low {s : State} (hl : s.lineIn = false) :
    exec .readyWait s = .next { s with idx := 0#6, phase := 6#4 } := by
  simp [exec, execReadyWait, hl]

/-- READY_WAIT times out on a High sample at the bound (R140, R201). -/
theorem exec_readyWait_timeout {s : State} (hl : s.lineIn = true) (hc : s.cnt.toNat = s.params.maxCount.toNat) :
    exec .readyWait s = .next (raiseTimeout 5 s) := by
  simp [exec, execReadyWait, hl, cnt_eq_maxCount_iff.2 hc]

/-- READY_WAIT counts a High sample away from the bound (R140). -/
theorem exec_readyWait_counts {s : State} (hl : s.lineIn = true) (hc : s.cnt.toNat ≠ s.params.maxCount.toNat) :
    exec .readyWait s = .next { s with cnt := s.cnt + 1#32 } := by
  simp [exec, execReadyWait, hl, mt cnt_eq_maxCount_iff.1 hc]

/-- An index with a pair's number names the pair (R22). -/
theorem pairOf_eq_of_toNat {idx : BitVec 6} {i : Pair} (hi : idx.toNat = i.val) : pairOf idx = some i := by
  have hle : idx.toNat ≤ 40 := by omega
  rw [pairOf_eq_some hle, Option.some_inj]
  exact Fin.ext hi

/-- CAP_LOW ends on a High sample (R141). -/
theorem exec_capLow_high {s : State} (hl : s.lineIn = true) : exec .capLow s = .next { s with phase := 7#4 } := by
  simp [exec, execCapLow, hl]

/-- CAP_LOW times out on a Low sample at the bound (R141, R201). -/
theorem exec_capLow_timeout {s : State} {i : Pair} (hi : s.idx.toNat = i.val) (hl : s.lineIn = false)
    (hc : s.pdl[i] = s.params.maxCount) : exec .capLow s = .next (raiseTimeout 6 s) := by
  simp [exec, execCapLow, hl, pairOf_eq_of_toNat hi, ← hc]

/-- CAP_LOW counts a Low sample away from the bound in the entry of its pair (R141). -/
theorem exec_capLow_counts {s : State} {i : Pair} (hi : s.idx.toNat = i.val) (hl : s.lineIn = false)
    (hc : s.pdl[i] ≠ s.params.maxCount) :
    exec .capLow s = .next { s with pdl := s.pdl.set i (s.pdl[i] + 1#16) } := by
  simp only [exec, execCapLow, hl, pairOf_eq_of_toNat hi, if_neg hc, Bool.false_eq_true, if_false]

/-- CAP_HIGH ends the pair on a Low sample (R142). -/
theorem exec_capHigh_low {s : State} (hl : s.lineIn = false) : exec .capHigh s = .next (nextPair s) := by
  simp [exec, execCapHigh, hl]

/-- CAP_HIGH times out on a High sample at the bound (R142, R201). -/
theorem exec_capHigh_timeout {s : State} {i : Pair} (hi : s.idx.toNat = i.val) (hl : s.lineIn = true)
    (hc : s.pdh[i] = s.params.maxCount) : exec .capHigh s = .next (raiseTimeout 7 s) := by
  simp [exec, execCapHigh, hl, pairOf_eq_of_toNat hi, ← hc]

/-- CAP_HIGH counts a High sample away from the bound in the entry of its pair (R142). -/
theorem exec_capHigh_counts {s : State} {i : Pair} (hi : s.idx.toNat = i.val) (hl : s.lineIn = true)
    (hc : s.pdh[i] ≠ s.params.maxCount) :
    exec .capHigh s = .next { s with pdh := s.pdh.set i (s.pdh[i] + 1#16) } := by
  simp only [exec, execCapHigh, hl, pairOf_eq_of_toNat hi, if_neg hc, Bool.true_eq_false, if_false]

/-- After pair 40 the capture is over and the priority request is dropped (R142). -/
theorem nextPair_last {s : State} (hi : s.idx.toNat = 40) : nextPair s = { s with prio := false, phase := 8#4 } :=
  if_pos (BitVec.eq_of_toNat_eq hi)

/-- After an earlier pair the capture of the next one starts (R142). -/
theorem nextPair_of_lt {s : State} (hi : s.idx.toNat < 40) :
    nextPair s = { s with idx := s.idx + 1#6, phase := 6#4 } :=
  if_neg fun h => by simp [h] at hi

/-- The counter below the bound, a number of 16 bits, goes up by exactly one (R140). -/
theorem cnt_add_one_of_lt_count {c : BitVec 32} {m : Count} (h : c.toNat < m.toNat) :
    (c + 1#32).toNat = c.toNat + 1 :=
  cnt_add_one (n := 65536#32) (Nat.lt_of_le_of_lt h m.isLt)

/-- One more in an entry below the bound: the entry goes up by exactly one and the others stay. -/
theorem set_add_one {f : PulseFile} {i : Pair} {m : Count} (h : f[i].toNat < m.toNat) :
    (f.set i (f[i] + 1#16))[i].toNat = f[i].toNat + 1 ∧ ∀ j : Pair, j ≠ i → (f.set i (f[i] + 1#16))[j] = f[j] :=
  ⟨by rw [getElem_set, if_pos rfl, count_add_one h], fun _ hj => getElem_set_ne _ hj.symm⟩

/-- Settles O28: one equation per branch of R140. -/
theorem readyWaitEndsCountsOrTimesOut : Obligations.ReadyWaitEndsCountsOrTimesOut := by
  unfold Obligations.ReadyWaitEndsCountsOrTimesOut
  intro s
  exact ⟨exec_readyWait_low, exec_readyWait_timeout,
    fun hl hc => ⟨_, exec_readyWait_counts hl hc.ne, rfl, cnt_add_one_of_lt_count hc⟩⟩

/-- Settles O29: one equation per branch of R141. -/
theorem capLowEndsCountsOrTimesOut : Obligations.CapLowEndsCountsOrTimesOut := by
  unfold Obligations.CapLowEndsCountsOrTimesOut
  intro s i hi
  exact ⟨exec_capLow_high, exec_capLow_timeout hi,
    fun hl hc => ⟨_, exec_capLow_counts hi hl (BitVec.ne_of_lt hc), rfl, set_add_one hc⟩⟩

/-- Settles O30: one equation per branch of R142. -/
theorem capHighEndsCountsOrTimesOut : Obligations.CapHighEndsCountsOrTimesOut := by
  unfold Obligations.CapHighEndsCountsOrTimesOut
  intro s i hi
  refine ⟨fun hl h40 => ?_, fun hl hlt => ?_, exec_capHigh_timeout hi,
    fun hl hc => ⟨_, exec_capHigh_counts hi hl (BitVec.ne_of_lt hc), rfl, set_add_one hc⟩⟩
  · rw [exec_capHigh_low hl, nextPair_last (hi.trans h40)]
  · rw [exec_capHigh_low hl, nextPair_of_lt (hi ▸ hlt)]
    exact ⟨_, rfl, rfl, hi ▸ idx_add_one (hi ▸ hlt)⟩

/-! ### Runs of samples -/

/-- Ticks with the given samples take the block from one state to the other, whatever level the line had before and
whatever events come after. The line level and the events to come in the two states do not matter. -/
def State.LeadsTo (s : State) (samples : List Bool) (t : State) : Prop :=
  ∀ (line : Bool) (rest : List Event),
    runSteps samples.length { s with lineIn := line, script := ticksOf samples ++ rest } =
      .next { t with lineIn := samples.getLastD line, script := rest }

theorem leadsTo_nil (s : State) : s.LeadsTo [] s := fun _ _ => rfl

/-- One tick executes the phase of `PHASE` with its sample on the line. -/
theorem leadsTo_tick {s t : State} {b : Bool}
    (h : ∀ rest, exec (decodePhase s.phase) { s with lineIn := b, script := rest } =
      .next { t with lineIn := b, script := rest }) : s.LeadsTo [b] t :=
  fun _ rest => runSteps_succ ((step_tick rfl).trans (h rest))

theorem leadsTo_append {s t u : State} {xs ys : List Bool} (h1 : s.LeadsTo xs t) (h2 : t.LeadsTo ys u) :
    s.LeadsTo (xs ++ ys) u := by
  intro line rest
  rw [ticksOf_append, List.append_assoc, List.length_append, runSteps_add (h1 line _), h2]
  simp [List.getLastD_eq_getLast?]

/-- Parts of a waveform, each of which leads from one state of a sequence to the next, lead along the whole sequence. -/
theorem leadsTo_flatMap {n : Nat} (u : Nat → State) {part : Fin n → List Bool}
    (h : ∀ i : Fin n, (u i.val).LeadsTo (part i) (u (i.val + 1))) :
    (u 0).LeadsTo ((List.finRange n).flatMap part) (u n) := by
  induction n with
  | zero => exact leadsTo_nil _
  | succ n ih =>
    rw [List.finRange_succ_last, List.flatMap_append, List.flatMap_map, List.flatMap_singleton]
    exact leadsTo_append (ih fun i => h i.castSucc) (h (Fin.last n))

/-- The same for a level that stays. -/
theorem leadsTo_replicate {n : Nat} {b : Bool} (u : Nat → State)
    (h : ∀ k < n, (u k).LeadsTo [b] (u (k + 1))) : (u 0).LeadsTo (List.replicate n b) (u n) := by
  have hparts : List.replicate n b = (List.finRange n).flatMap fun _ => [b] := by
    rw [← List.map_eq_flatMap, List.map_const', List.length_finRange]
  rw [hparts]
  exact leadsTo_flatMap u fun i => h i.val i.isLt

/-! ### Counting a level (R140 to R142) -/

/-- A number up to the bound fits a duration entry and the counter. -/
theorem toNat_ofNat_of_le_count {w n : Nat} {m : Count} (hw : 16 ≤ w) (hn : n ≤ m.toNat) :
    (BitVec.ofNat w n).toNat = n := by
  have hfits : n < 2 ^ w := hn.trans_lt (m.isLt.trans_le (Nat.pow_le_pow_right Nat.two_pos hw))
  rw [BitVec.toNat_ofNat, Nat.mod_eq_of_lt hfits]

/-- READY_WAIT counts as many High samples as the bound allows (R140). -/
theorem leadsTo_readyWait_counts {s : State} {r : Nat} (hp : s.phase = 5#4) (hc : s.cnt = 0#32)
    (hr : r ≤ s.params.maxCount.toNat) :
    s.LeadsTo (List.replicate r true) { s with cnt := BitVec.ofNat 32 r } := by
  have hrun := leadsTo_replicate (n := r) (b := true) (fun k => { s with cnt := BitVec.ofNat 32 k }) fun k hk =>
    leadsTo_tick fun rest => by
      have hlt := hk.trans_le hr
      rw [hp, BitVec.ofNat_add]
      exact exec_readyWait_counts rfl ((toNat_ofNat_of_le_count (by decide) hlt.le).trans_ne hlt.ne)
  rwa [← hc] at hrun

/-- The entry of a pair counts one more. -/
theorem set_ofNat_add_one (f : PulseFile) (i : Pair) (k : Nat) :
    (f.set i (BitVec.ofNat 16 k)).set i ((f.set i (BitVec.ofNat 16 k))[i] + 1#16) = f.set i (BitVec.ofNat 16 (k + 1)) := by
  rw [getElem_set, if_pos rfl, Vector.set_set, BitVec.ofNat_add]

/-- An entry that has counted up to less than the bound is not at the bound. -/
theorem getElem_set_ofNat_ne {f : PulseFile} {i : Pair} {k : Nat} {m : Count} (hk : k < m.toNat) :
    (f.set i (BitVec.ofNat 16 k))[i] ≠ m := by
  rw [getElem_set, if_pos rfl]
  exact BitVec.ne_of_lt ((toNat_ofNat_of_le_count (by decide) hk.le).trans_lt hk)

/-- An entry that has counted nothing. -/
theorem set_ofNat_zero {f : PulseFile} {i : Pair} (h : f[i] = 0#16) : f.set i (BitVec.ofNat 16 0) = f := by
  rw [← h]
  exact Vector.set_getElem_self i.isLt

/-- CAP_LOW counts as many Low samples as the bound allows (R141). -/
theorem leadsTo_capLow_counts {s : State} {i : Pair} {n : Nat} (hp : s.phase = 6#4) (hi : s.idx.toNat = i.val)
    (h0 : s.pdl[i] = 0#16) (hn : n ≤ s.params.maxCount.toNat) :
    s.LeadsTo (List.replicate n false) { s with pdl := s.pdl.set i (BitVec.ofNat 16 n) } := by
  have hrun := leadsTo_replicate (n := n) (b := false) (fun k => { s with pdl := s.pdl.set i (BitVec.ofNat 16 k) })
    fun k hk => leadsTo_tick fun rest => by
      rw [hp, ← set_ofNat_add_one]
      refine exec_capLow_counts (i := i) ?_ rfl ?_
      · exact hi
      · exact getElem_set_ofNat_ne (hk.trans_le hn)
  rwa [set_ofNat_zero h0] at hrun

/-- CAP_HIGH counts as many High samples as the bound allows (R142). -/
theorem leadsTo_capHigh_counts {s : State} {i : Pair} {n : Nat} (hp : s.phase = 7#4) (hi : s.idx.toNat = i.val)
    (h0 : s.pdh[i] = 0#16) (hn : n ≤ s.params.maxCount.toNat) :
    s.LeadsTo (List.replicate n true) { s with pdh := s.pdh.set i (BitVec.ofNat 16 n) } := by
  have hrun := leadsTo_replicate (n := n) (b := true) (fun k => { s with pdh := s.pdh.set i (BitVec.ofNat 16 k) })
    fun k hk => leadsTo_tick fun rest => by
      rw [hp, ← set_ofNat_add_one]
      refine exec_capHigh_counts (i := i) ?_ rfl ?_
      · exact hi
      · exact getElem_set_ofNat_ne (hk.trans_le hn)
  rwa [set_ofNat_zero h0] at hrun

/-! ### Changes of level (R140 to R142) -/

theorem leadsTo_readyWait_ends {s : State} (hp : s.phase = 5#4) :
    s.LeadsTo [false] { s with idx := 0#6, phase := 6#4 } :=
  leadsTo_tick fun _ => by rw [hp]; exact exec_readyWait_low rfl

theorem leadsTo_capLow_ends {s : State} (hp : s.phase = 6#4) : s.LeadsTo [true] { s with phase := 7#4 } :=
  leadsTo_tick fun _ => by rw [hp]; exact exec_capLow_high rfl

/-- The next pair's start does not look at the line or at the events to come. -/
theorem nextPair_withLine (s : State) (line : Bool) (rest : List Event) :
    nextPair { s with lineIn := line, script := rest } = { nextPair s with lineIn := line, script := rest } := by
  unfold nextPair
  split <;> rfl

theorem leadsTo_capHigh_ends {s : State} (hp : s.phase = 7#4) : s.LeadsTo [false] (nextPair s) :=
  leadsTo_tick fun _ => by rw [hp, ← nextPair_withLine]; exact exec_capHigh_low rfl

/-! ### The pairs of a frame (R143) -/

/-- The state at the end of the high pulse of pair `i`, with a low pulse of `l` samples and a high pulse of `h` samples
recorded: both counts are one less than the run, whose first sample ended the run before it (R143). -/
def State.pulsed (s : State) (i : Pair) (l h : Nat) : State :=
  { s with
    phase := 7#4
    pdl := s.pdl.set i (BitVec.ofNat 16 (l - 1)), pdh := s.pdh.set i (BitVec.ofNat 16 (h - 1)) }

/-- The runs of one pair leave both its counts one less than its run, and end the pair (R143). -/
theorem leadsTo_pairSamples {s : State} {i : Pair} {l h : Nat} (hp : s.phase = 6#4) (hi : s.idx.toNat = i.val)
    (hlow : s.pdl[i] = 0#16) (hhigh : s.pdh[i] = 0#16) (hl : l ≤ s.params.maxCount.toNat + 1)
    (hh : h ≤ s.params.maxCount.toNat + 1) : s.LeadsTo (pairSamples l h) (nextPair (s.pulsed i l h)) := by
  have hlowRun := leadsTo_capLow_counts (n := l - 1) hp hi hlow (by omega)
  have hhighRun := leadsTo_capHigh_counts (n := h - 1) (s := { s with
    phase := 7#4, pdl := s.pdl.set i (BitVec.ofNat 16 (l - 1)) }) rfl hi hhigh (Nat.sub_le_of_le_add hh)
  exact leadsTo_append (leadsTo_append (leadsTo_append hlowRun (leadsTo_capLow_ends hp)) hhighRun)
    (leadsTo_capHigh_ends rfl)

/-- A duration file with the runs of the first `k` pairs recorded, each less one, and 0 in every later entry. -/
def recorded (runs : Pair → Nat) (k : Nat) : PulseFile :=
  Vector.ofFn fun i : Pair => if i.val < k then BitVec.ofNat 16 (runs i - 1) else 0#16

theorem getElem_recorded (runs : Pair → Nat) (k : Nat) (i : Pair) :
    (recorded runs k)[i] = if i.val < k then BitVec.ofNat 16 (runs i - 1) else 0#16 := by
  simp [recorded]

theorem getElem_recorded_self (runs : Pair → Nat) (i : Pair) : (recorded runs i.val)[i] = 0#16 := by
  rw [getElem_recorded, if_neg (Nat.lt_irrefl _)]

theorem pulseFile_ext {f g : PulseFile} (h : ∀ i : Pair, f[i] = g[i]) : f = g :=
  Vector.ext fun i hi => h ⟨i, hi⟩

/-- Recording one pair more writes its entry. -/
theorem set_recorded (runs : Pair → Nat) (i : Pair) :
    (recorded runs i.val).set i (BitVec.ofNat 16 (runs i - 1)) = recorded runs (i.val + 1) := by
  refine pulseFile_ext fun j => ?_
  rw [getElem_set, getElem_recorded, getElem_recorded]
  by_cases hij : i = j
  · simp [hij]
  · have hne : j.val ≠ i.val := fun h => hij (Fin.ext h.symm)
    rw [if_neg hij]
    congr 1
    exact propext (by omega)

/-- A clean file has nothing recorded. -/
theorem eq_recorded_zero {f : PulseFile} (runs : Pair → Nat) (h : ∀ i : Pair, f[i] = 0#16) : f = recorded runs 0 :=
  pulseFile_ext fun i => by rw [h, getElem_recorded, if_neg (Nat.not_lt_zero _)]

theorem getElem_recorded_all {runs : Pair → Nat} {m : Count} {i : Pair} (h : runs i ≤ m.toNat + 1) :
    (recorded runs 41)[i].toNat = runs i - 1 := by
  rw [getElem_recorded, if_pos i.isLt, toNat_ofNat_of_le_count (m := m) (by decide) (Nat.sub_le_of_le_add h)]

/-- The capture at the start of pair `k`, with the pairs before it recorded. -/
def State.atPair (s : State) (l h : Pair → Nat) (k : Nat) : State :=
  { s with phase := 6#4, idx := BitVec.ofNat 6 k, pdl := recorded l k, pdh := recorded h k }

/-- The end of capture, with every pair recorded (R142). -/
def State.captured (s : State) (l h : Pair → Nat) : State :=
  { s with phase := 8#4, prio := false, idx := 40#6, pdl := recorded l 41, pdh := recorded h 41 }

section Frame
variable {s : State} {l h : Pair → Nat}

theorem atPair_idx_toNat (s : State) (l h : Pair → Nat) (i : Pair) : (s.atPair l h i.val).idx.toNat = i.val := by
  have hi := i.isLt
  simp only [State.atPair, BitVec.toNat_ofNat]
  omega

/-- READY_WAIT ends at the start of pair 0, with nothing recorded in clean files (R140). -/
theorem leadsTo_atPair_zero (hp : s.phase = 5#4) (hclean : ∀ i : Pair, s.pdl[i] = 0#16 ∧ s.pdh[i] = 0#16) :
    s.LeadsTo [false] (s.atPair l h 0) := by
  rw [State.atPair, ← eq_recorded_zero l fun i => (hclean i).1, ← eq_recorded_zero h fun i => (hclean i).2]
  exact leadsTo_readyWait_ends hp

/-- The end of a pair that is not the last is the start of the next. -/
theorem nextPair_atPair {i : Pair} (hi : i.val < 40) :
    nextPair ((s.atPair l h i.val).pulsed i (l i) (h i)) = s.atPair l h (i.val + 1) := by
  have hidx : ((s.atPair l h i.val).pulsed i (l i) (h i)).idx.toNat = i.val := atPair_idx_toNat s l h i
  rw [nextPair_of_lt (hidx.trans_lt hi)]
  simp only [State.pulsed, State.atPair, set_recorded, BitVec.ofNat_add]

/-- The end of pair 40 is the end of capture. -/
theorem nextPair_atPair_last {i : Pair} (hi : i.val = 40) :
    nextPair ((s.atPair l h i.val).pulsed i (l i) (h i)) = s.captured l h := by
  have hidx : ((s.atPair l h i.val).pulsed i (l i) (h i)).idx.toNat = i.val := atPair_idx_toNat s l h i
  rw [nextPair_last (hidx.trans hi)]
  simp only [State.pulsed, State.atPair, State.captured, set_recorded]
  rw [hi]

variable (hruns : ∀ i : Pair, l i ≤ s.params.maxCount.toNat + 1 ∧ h i ≤ s.params.maxCount.toNat + 1)
include hruns

/-- The runs of one pair record it (R143). -/
theorem leadsTo_atPair (i : Pair) :
    (s.atPair l h i.val).LeadsTo (pairSamples (l i) (h i)) (nextPair ((s.atPair l h i.val).pulsed i (l i) (h i))) :=
  leadsTo_pairSamples rfl (atPair_idx_toNat s l h i) (getElem_recorded_self l i) (getElem_recorded_self h i) (hruns i).1
    (hruns i).2

/-- The runs of all pairs, from the start of pair 0, record every pair and end the capture (R143). -/
theorem leadsTo_frameSamples : (s.atPair l h 0).LeadsTo (frameSamples l h) (s.captured l h) := by
  have hfirst := leadsTo_flatMap (s.atPair l h) fun i : Fin 40 => by
    have hpair := leadsTo_atPair hruns i.castSucc
    rwa [nextPair_atPair i.isLt] at hpair
  have hlast := leadsTo_atPair hruns (Fin.last 40)
  rw [nextPair_atPair_last rfl] at hlast
  rw [frameSamples, List.finRange_succ_last, List.flatMap_append, List.flatMap_map, List.flatMap_singleton]
  exact leadsTo_append hfirst hlast

end Frame

/-! ### The whole capture (R143) -/

theorem length_pairSamples {l h : Nat} (hl : 1 ≤ l) (hh : 1 ≤ h) : (pairSamples l h).length = l + h := by
  simp only [pairSamples, List.length_append, List.length_replicate, List.length_singleton]
  omega

theorem length_frameSamples {l h : Pair → Nat} (hruns : ∀ i : Pair, 1 ≤ l i ∧ 1 ≤ h i) :
    (frameSamples l h).length = ∑ i : Pair, (l i + h i) := by
  rw [frameSamples, List.length_flatMap, Fin.sum_univ_def]
  congr 2
  exact funext fun i => length_pairSamples (hruns i).1 (hruns i).2

/-- The samples end Low: capture ends with the Low sample that ends the last high pulse. -/
theorem getLastD_frameSamples (xs : List Bool) (l h : Pair → Nat) (line : Bool) :
    (xs ++ frameSamples l h).getLastD line = false := by
  rw [frameSamples, List.finRange_succ_last, List.flatMap_append, List.flatMap_singleton, pairSamples, ← List.append_assoc,
    ← List.append_assoc, List.getLastD_concat]

/-- READY_WAIT and the runs of all pairs, on clean files, complete the capture (R143). -/
theorem leadsTo_capture {s : State} {r : Nat} {l h : Pair → Nat} (hp : s.phase = 5#4) (hc : s.cnt = 0#32)
    (hr : r ≤ s.params.maxCount.toNat) (hclean : ∀ i : Pair, s.pdl[i] = 0#16 ∧ s.pdh[i] = 0#16)
    (hruns : ∀ i : Pair, l i ≤ s.params.maxCount.toNat + 1 ∧ h i ≤ s.params.maxCount.toNat + 1) :
    s.LeadsTo (List.replicate r true ++ [false] ++ frameSamples l h)
      (State.captured { s with cnt := BitVec.ofNat 32 r } l h) := by
  have hstart := leadsTo_atPair_zero (s := { s with cnt := BitVec.ofNat 32 r }) (l := l) (h := h) hp hclean
  exact leadsTo_append (leadsTo_append (leadsTo_readyWait_counts hp hc hr) hstart) (leadsTo_frameSamples hruns)

/-- Settles O58: the whole waveform leads to the end of capture, and the counts are those of `recorded`. -/
theorem captureRecordsEveryRunLessOne : Obligations.CaptureRecordsEveryRunLessOne := by
  unfold Obligations.CaptureRecordsEveryRunLessOne
  intro s r l h rest hp hc hr hclean hruns hs
  have hpos (i : Pair) : 1 ≤ l i ∧ 1 ≤ h i := by
    obtain ⟨hl, -, hh, -⟩ := hruns i
    exact ⟨hl, hh⟩
  have hle (i : Pair) : l i ≤ s.params.maxCount.toNat + 1 ∧ h i ≤ s.params.maxCount.toNat + 1 := by
    obtain ⟨-, hl, -, hh⟩ := hruns i
    exact ⟨hl, hh⟩
  have hcnt : (BitVec.ofNat 32 r).toNat = r := toNat_ofNat_of_le_count (by decide) hr
  have hcounts (i : Pair) : (recorded l 41)[i].toNat = l i - 1 ∧ (recorded h 41)[i].toNat = h i - 1 :=
    ⟨getElem_recorded_all (hle i).1, getElem_recorded_all (hle i).2⟩
  have hlength : (List.replicate r true ++ [false] ++ frameSamples l h).length = r + 1 + ∑ i : Pair, (l i + h i) := by
    rw [List.length_append, List.length_append, List.length_replicate, List.length_singleton, length_frameSamples hpos]
  have hcapture := leadsTo_capture hp hc hr hclean hle s.lineIn rest
  rw [← hs, getLastD_frameSamples, hlength] at hcapture
  exact ⟨_, hcapture, rfl, hcnt, hcounts⟩

end Sys2Proof.Machine

/-! PROOFS of the statements on the threshold and the comparator: the mean of the payload lows, and how the decoded bits
move with the durations. -/

namespace Sys2Proof.Machine

/-! ### The threshold as a mean (R160) -/

/-- The threshold is the floor of the mean low over pairs 1 to 40 (R160). -/
theorem thresholdOf_toNat_eq_mean (pdl : PulseFile) :
    (thresholdOf pdl).toNat = (∑ i : Fin 40, pdl[i.succ].toNat) / 40 := by
  rw [thresholdOf_toNat, lowSum_eq_sum]

/-- Settles O31: the phase writes `thresholdOf`, which is that mean. -/
theorem threshIsTheFloorOfTheMean : Obligations.ThreshIsTheFloorOfTheMean := by
  unfold Obligations.ThreshIsTheFloorOfTheMean
  intro s
  exact ⟨{ s with thresh := thresholdOf s.pdl, phase := 9#4 }, rfl, rfl, thresholdOf_toNat_eq_mean s.pdl⟩

/-! ### Monotonicity (R163 (c)) -/

/-- Lower payload lows give no higher threshold. -/
theorem thresholdOf_toNat_mono {f g : PulseFile} (h : ∀ i : Pair, 0 < i.val → f[i].toNat ≤ g[i].toNat) :
    (thresholdOf f).toNat ≤ (thresholdOf g).toNat := by
  rw [thresholdOf_toNat_eq_mean, thresholdOf_toNat_eq_mean]
  exact Nat.div_le_div_right (Finset.sum_le_sum fun k _ => h k.succ k.val.succ_pos)

/-- Every bit of a frame is the bit of a payload pair (R82). -/
theorem exists_pair_of_getLsbD {f : Frame} {j : Nat} (h : f.getLsbD j = true) :
    ∃ i : Pair, 0 < i.val ∧ j = 40 - i.val := by
  have hj : j < 40 := BitVec.lt_of_getLsbD h
  exact ⟨⟨40 - j, by omega⟩, Nat.sub_pos_of_lt hj, (Nat.sub_sub_self hj.le).symm⟩

/-- A bit that is 1 stays 1 when the threshold does not rise and no payload high falls (R81). -/
theorem frameOf_getLsbD_mono {thr thr' : Count} {f g : PulseFile} {j : Nat} (hthr : thr'.toNat ≤ thr.toNat)
    (hhigh : ∀ i : Pair, 0 < i.val → f[i].toNat ≤ g[i].toNat) (hbit : (frameOf thr f).getLsbD j = true) :
    (frameOf thr' g).getLsbD j = true := by
  obtain ⟨i, hi, rfl⟩ := exists_pair_of_getLsbD hbit
  rw [frameOf_getLsbD_iff thr f hi] at hbit
  rw [frameOf_getLsbD_iff thr' g hi]
  calc thr'.toNat ≤ thr.toNat := hthr
    _ ≤ f[i].toNat := hbit
    _ ≤ g[i].toNat := hhigh i hi

/-- Settles O55: the second state's threshold is no higher and its highs are no lower, so each comparison that held
in the first holds in it. -/
theorem decodedBitsAreMonotone : Obligations.DecodedBitsAreMonotone := by
  unfold Obligations.DecodedBitsAreMonotone
  intro s s' t t' u u' hmoved ht hu ht' hu' j hbit
  obtain ⟨-, hframe⟩ := thresh_then_bitdec ht hu
  obtain ⟨-, hframe'⟩ := thresh_then_bitdec ht' hu'
  have hthr : (thresholdOf s'.pdl).toNat ≤ (thresholdOf s.pdl).toNat := thresholdOf_toNat_mono fun i _ => (hmoved i).1
  rw [hframe] at hbit
  rw [hframe']
  exact frameOf_getLsbD_mono hthr (fun i _ => (hmoved i).2) hbit

end Sys2Proof.Machine

/-! PROOFS of the statement on the checksum: the sum CHECK takes, in the base-256 digits of the frame's number. -/

namespace Sys2Proof.Machine

/-- The first byte is the leading digit, so no reduction is left in it (R25). -/
theorem frameByte_zero_toNat (f : Frame) : (frameByte f 0).toNat = f.toNat / 2 ^ 32 :=
  (frameByte_toNat f 0).trans (Nat.mod_eq_of_lt (Nat.div_lt_of_lt_mul f.isLt))

/-- `S10` is the sum of the four leading digits (R170, R171). -/
theorem checkSum_eq_sum_digits (f : Frame) :
    checkSum f = f.toNat / 2 ^ 32 + f.toNat / 2 ^ 24 % 256 + f.toNat / 2 ^ 16 % 256 + f.toNat / 2 ^ 8 % 256 := by
  rw [checkSum, frameByte_zero_toNat, frameByte_toNat f 1, frameByte_toNat f 2, frameByte_toNat f 3]
  rfl

/-- The checksum holds when the four leading digits sum to the last digit modulo 256 (R170). -/
theorem checksumOk_iff_digits (f : Frame) :
    ChecksumOk f ↔
      (f.toNat / 2 ^ 32 + f.toNat / 2 ^ 24 % 256 + f.toNat / 2 ^ 16 % 256 + f.toNat / 2 ^ 8 % 256) % 256 =
        f.toNat % 256 := by
  have hlast : (frameByte f 4).toNat = f.toNat % 256 := by rw [frameByte_toNat]; simp
  rw [ChecksumOk, checkSum_eq_sum_digits, hlast]

/-- Settles O33: the two outcomes of CHECK, the frame's bytes read as digits. -/
theorem checkJudgesTheChecksum : Obligations.CheckJudgesTheChecksum := by
  unfold Obligations.CheckJudgesTheChecksum
  intro s f sum
  obtain ⟨hok, hexec⟩ | ⟨hbad, hexec⟩ := execCheck_cases s
  · have hdigits : sum % 256 = f % 256 := (checksumOk_iff_digits s.frame).1 hok
    exact ⟨fun _ => hexec, fun hne => absurd hdigits hne⟩
  · have hdigits : sum % 256 ≠ f % 256 := mt (checksumOk_iff_digits s.frame).2 hbad
    exact ⟨fun heq => absurd heq hdigits, fun _ => hexec⟩

end Sys2Proof.Machine

/-! PROOFS of the statements on calibration (45_calibration.md): the reading CALIB derives from the frame, and its
ranges. -/

namespace Sys2Proof.Machine

/-! ### The two sides of each fallback (R181) -/

theorem humTenths_of_fallback {f : Frame} (h : HumFallback f) : humTenths f = (frameByte f 0).toNat * 10 := if_pos h

theorem humTenths_of_not_fallback {f : Frame} (h : ¬ HumFallback f) : humTenths f = humWord f := if_neg h

theorem tempMagnitude_of_fallback {f : Frame} (h : TempFallback f) :
    tempMagnitude f = (frameByte f 2).toNat * 10 := if_pos h

theorem tempMagnitude_of_not_fallback {f : Frame} (h : ¬ TempFallback f) : tempMagnitude f = tempWord f := if_neg h

/-! ### The two signs (R181, R182) -/

theorem celsiusTenths_toInt_of_neg {f : Frame} (h : tempSign f = true) :
    (celsiusTenths f).toInt = -(tempMagnitude f : Int) :=
  (celsiusTenths_toInt f).trans (if_pos h)

theorem celsiusTenths_toInt_of_nonneg {f : Frame} (h : tempSign f = false) :
    (celsiusTenths f).toInt = (tempMagnitude f : Int) :=
  (celsiusTenths_toInt f).trans (if_neg (ne_true_of_eq_false h))

/-- Settles O34: each field is the function of the frame that CALIB writes to it, taken on both sides of its limit. -/
theorem calibDerivesTheReading : Obligations.CalibDerivesTheReading := by
  unfold Obligations.CalibDerivesTheReading
  intro s b h16 t15 neg
  have hneg : tempSign s.frame = true ↔ neg := tempSign_iff s.frame
  have hmag : (setReading s).tmag.toNat = tempMagnitude s.frame := setReading_tmag_toNat s
  refine ⟨endRun (setReading s), rfl, rfl, fun hf => ⟨?_, decide_eq_true hf⟩,
    fun hn => ⟨?_, decide_eq_false (Nat.not_lt.2 hn)⟩, fun hf => ⟨?_, decide_eq_true hf⟩,
    fun hn => ⟨?_, decide_eq_false (Nat.not_lt.2 hn)⟩, hneg, fun hs => ?_, fun hs => ?_,
    fahrenheitHundredths_toInt s.frame⟩
  · exact (setReading_hum_toNat s).trans (humTenths_of_fallback hf)
  · exact (setReading_hum_toNat s).trans (humTenths_of_not_fallback (Nat.not_lt.2 hn))
  · exact hmag.trans (tempMagnitude_of_fallback hf)
  · exact hmag.trans (tempMagnitude_of_not_fallback (Nat.not_lt.2 hn))
  · change (celsiusTenths s.frame).toInt = -((setReading s).tmag.toNat : Int)
    rw [hmag, celsiusTenths_toInt_of_neg (hneg.2 hs)]
  · change (celsiusTenths s.frame).toInt = ((setReading s).tmag.toNat : Int)
    rw [hmag, celsiusTenths_toInt_of_nonneg (Bool.eq_false_iff.2 (mt hneg.1 hs))]

/-! ### The ranges of the reading (R183) -/

/-- A fallback humidity comes from a byte of at least 3, since `H16` is above 1000. -/
theorem humTenths_range_of_fallback {f : Frame} (h : HumFallback f) : 30 ≤ humTenths f ∧ humTenths f % 10 = 0 := by
  have hb1 := (frameByte f 1).isLt
  rw [humTenths_of_fallback h]
  unfold HumFallback humWord at h
  omega

theorem humTenths_le_of_not_fallback {f : Frame} (h : ¬ HumFallback f) : humTenths f ≤ 1000 :=
  (humTenths_of_not_fallback h).trans_le (Nat.not_lt.1 h)

/-- A fallback magnitude comes from a byte whose low seven bits are at least 4, since `T15` is above 1250. -/
theorem tempMagnitude_range_of_fallback {f : Frame} (h : TempFallback f) :
    40 ≤ tempMagnitude f ∧ tempMagnitude f % 10 = 0 := by
  have hb3 := (frameByte f 3).isLt
  rw [tempMagnitude_of_fallback h]
  unfold TempFallback tempWord at h
  omega

theorem tempMagnitude_le_of_not_fallback {f : Frame} (h : ¬ TempFallback f) : tempMagnitude f ≤ 1250 :=
  (tempMagnitude_of_not_fallback h).trans_le (Nat.not_lt.1 h)

/-- With bit 7 of `b2` set, the fallback byte is at least 0x84 (R181 corner case (c)). -/
theorem le_tempMagnitude_of_neg_fallback {f : Frame} (hs : tempSign f = true) (h : TempFallback f) :
    1320 ≤ tempMagnitude f := by
  have hb3 := (frameByte f 3).isLt
  have hb2 := (tempSign_iff f).1 hs
  rw [tempMagnitude_of_fallback h]
  unfold TempFallback tempWord at h
  omega

/-- Without the sign the fallback byte is at most 127. -/
theorem tempMagnitude_le_of_nonneg {f : Frame} (hs : tempSign f = false) : tempMagnitude f ≤ 1270 := by
  have hb2 : ¬ 128 ≤ (frameByte f 2).toNat := mt (tempSign_iff f).2 (ne_true_of_eq_false hs)
  by_cases h : TempFallback f
  · rw [tempMagnitude_of_fallback h]
    omega
  · have hle := tempMagnitude_le_of_not_fallback h
    omega

/-- Settles O35: humidity and magnitude by their fallbacks; Celsius is plus or minus the magnitude, so its bounds and
those of Fahrenheit follow from the magnitude's. -/
theorem readingStaysInItsRanges : Obligations.ReadingStaysInItsRanges := by
  unfold Obligations.ReadingStaysInItsRanges
  intro s t ht
  obtain rfl : endRun (setReading s) = t := Host.Outcome.next.inj ht
  have hmag := tempMagnitude_le s.frame
  simp only [endRun_hum, endRun_hfb, endRun_tmag, endRun_tfb, endRun_tneg, endRun_tempC, endRun_tempF,
    setReading_hum_toNat, setReading_hfb, setReading_tmag_toNat, setReading_tfb, setReading_tneg, setReading_tempC,
    setReading_tempF, fahrenheitHundredths_toInt, decide_eq_true_iff, decide_eq_false_iff_not]
  refine ⟨humTenths_le s.frame, humTenths_le_of_not_fallback, humTenths_range_of_fallback, hmag,
    tempMagnitude_le_of_not_fallback, tempMagnitude_range_of_fallback, fun hs => ?_, fun hs => ?_, fun hs hf => ?_,
    fun hs hn => ?_, fun hs hf => ?_, fun hs hn => ?_⟩
  · have hle := tempMagnitude_le_of_nonneg hs
    rw [celsiusTenths_toInt_of_nonneg hs]
    omega
  · rw [celsiusTenths_toInt_of_neg hs]
    omega
  · have hge := le_tempMagnitude_of_neg_fallback hs hf
    rw [celsiusTenths_toInt_of_neg hs]
    omega
  · have hle := tempMagnitude_le_of_not_fallback hn
    rw [celsiusTenths_toInt_of_neg hs]
    omega
  · obtain ⟨hge, -⟩ := tempMagnitude_range_of_fallback hf
    rw [celsiusTenths_toInt_of_nonneg hs]
    omega
  · have hle := tempMagnitude_le_of_not_fallback hn
    rw [celsiusTenths_toInt_of_nonneg hs]
    omega

end Sys2Proof.Machine

/-! PROOFS of the statements on the exceptions (60_exceptions.md): what a timeout leaves. -/

namespace Sys2Proof.Machine

/-! ### The phase a timeout is raised in (R200, R201) -/

/-- The code of a phase is the one its instruction is written with (R21). -/
theorem eq_of_decodePhase {code site : PhaseCode} {i : Instr} (hi : i = decodePhase code) (hsite : encode i = .ph4 site) :
    code = site := by
  rw [hi, encode_decodePhase] at hsite
  exact TableWord.ph4.inj hsite

/-- The phase is one that may time out, and its count is at the bound (R140, R141, R142). -/
structure State.CountAtBound (s : State) : Prop where
  site : s.phase = 5#4 ∨ s.phase = 6#4 ∨ s.phase = 7#4
  cnt : s.phase = 5#4 → s.cnt.toNat = s.params.maxCount.toNat
  pdl : s.phase = 6#4 → ∃ i : Pair, i.val = s.idx.toNat ∧ s.pdl[i] = s.params.maxCount
  pdh : s.phase = 7#4 → ∃ i : Pair, i.val = s.idx.toNat ∧ s.pdh[i] = s.params.maxCount

/-- Only the three capture phases set `ERR = 1`, each by `raise Timeout` with its own code as the site: every other effect
leaves `ERR` or sets it to 2. -/
theorem timeout_of_phaseEffect {i : Instr} {s t : State} (hi : i = decodePhase s.phase) (he : PhaseEffect i s t)
    (hs : s.err ≠ 1#2) (ht : t.err = 1#2) : s.CountAtBound ∧ t = raiseTimeout s.phase s := by
  cases he with
  | readyWaitTimeout _ hc =>
    have hp : s.phase = 5#4 := eq_of_decodePhase hi rfl
    exact ⟨⟨.inl hp, fun _ => hc, by simp [hp], by simp [hp]⟩, by rw [hp]; rfl⟩
  | capLowTimeout k hk _ hc =>
    have hp : s.phase = 6#4 := eq_of_decodePhase hi rfl
    exact ⟨⟨.inr (.inl hp), by simp [hp], fun _ => ⟨k, hk, hc⟩, by simp [hp]⟩, by rw [hp]; rfl⟩
  | capHighTimeout k hk _ hc =>
    have hp : s.phase = 7#4 := eq_of_decodePhase hi rfl
    exact ⟨⟨.inr (.inr hp), by simp [hp], by simp [hp], fun _ => ⟨k, hk, hc⟩⟩, by rw [hp]; rfl⟩
  | checkFails => exact absurd ht (by simp)
  | _ => exact absurd ht hs

/-- Settles O42: a run in progress has `ERR = 0`, so the tick raised the timeout; its six writes leave what the invariant
says of capture: the invalid state (R29), no threshold and no frame (R142), a released line (R36), and in READY_WAIT
pair 0 (R22). -/
theorem timeoutLeavesNoReading : Obligations.TimeoutLeavesNoReading := by
  unfold Obligations.TimeoutLeavesNoReading
  intro s t h hb ht herr
  have hr := running_of_inv h hb
  have he := phaseEffect_of_exec (encode_decodePhase s.phase) ht
  obtain ⟨⟨hsite, hcnt, hpdl, hpdh⟩, rfl⟩ := timeout_of_phaseEffect rfl he (by simp [hr.err]) herr
  obtain ⟨hge, hle⟩ : 5 ≤ s.phase.toNat ∧ s.phase.toNat ≤ 7 := by obtain hp | hp | hp := hsite <;> simp [hp]
  obtain ⟨hthresh, hframe⟩ := h.undecoded (by omega) hle
  obtain ⟨hoe, hout⟩ := released_of_inv h (by omega)
  have hidx (hp : s.phase = 5#4) : s.idx = 0#6 := h.idx_zero (by omega) (by simp [hp])
  exact ⟨rfl, hr.valid, hr.cleared, hthresh, hframe, hoe, hout, hsite, fun hp => ⟨hidx hp, hcnt hp⟩, hpdl, hpdh⟩

end Sys2Proof.Machine

/-! PROOFS of the statements on reset and hazards (70_reset_and_hazards.md): the reset tick, and why every run ends. -/

namespace Sys2Proof.Machine

/-! ### The reset tick (R230) -/

/-- Settles O8: the reset tick writes the value of the reset state to every element, and keeps the other fields. -/
theorem resetTickWritesEveryElement : Obligations.ResetTickWritesEveryElement := by
  unfold Obligations.ResetTickWritesEveryElement
  intro s sample rest hs
  rw [step_cons hs, onEvent_reset]
  rfl

/-! ### The ticks a run can still last, phase by phase (R244) -/

section TicksLeft

variable {s : State}

theorem ticksLeft_wakeHigh (hp : s.phase = 1#4) :
    s.ticksLeft = s.params.wakeHighTicks.toNat - s.cnt.toNat + s.params.wakeLowTicks.toNat + 1 +
      (s.params.settleTicks.toNat + (83 * (s.params.maxCount.toNat + 1) + 4)) := by
  simp [State.ticksLeft, hp]

theorem ticksLeft_wakeLow (hp : s.phase = 2#4) :
    s.ticksLeft = s.params.wakeLowTicks.toNat - s.cnt.toNat + 1 +
      (s.params.settleTicks.toNat + (83 * (s.params.maxCount.toNat + 1) + 4)) := by
  simp [State.ticksLeft, hp]

theorem ticksLeft_handover (hp : s.phase = 3#4) :
    s.ticksLeft = 1 + (s.params.settleTicks.toNat + (83 * (s.params.maxCount.toNat + 1) + 4)) := by
  simp [State.ticksLeft, hp]

theorem ticksLeft_settle (hp : s.phase = 4#4) :
    s.ticksLeft = s.params.settleTicks.toNat - s.cnt.toNat + (83 * (s.params.maxCount.toNat + 1) + 4) := by
  simp [State.ticksLeft, hp]

theorem ticksLeft_readyWait (hp : s.phase = 5#4) :
    s.ticksLeft = s.params.maxCount.toNat + 1 - s.cnt.toNat + 82 * (s.params.maxCount.toNat + 1) + 4 := by
  simp [State.ticksLeft, hp]

theorem getD_toList (f : PulseFile) {i : Pair} {n : Nat} (hi : i.val = n) : f.toList.getD n 0#16 = f[i] := by
  subst hi
  simp

theorem ticksLeft_capLow (hp : s.phase = 6#4) {i : Pair} (hi : i.val = s.idx.toNat) :
    s.ticksLeft = s.params.maxCount.toNat + 1 - s.pdl[i].toNat + (s.params.maxCount.toNat + 1) +
      2 * (40 - i.val) * (s.params.maxCount.toNat + 1) + 4 := by
  rw [← getD_toList s.pdl hi, hi]
  simp [State.ticksLeft, hp]

theorem ticksLeft_capHigh (hp : s.phase = 7#4) {i : Pair} (hi : i.val = s.idx.toNat) :
    s.ticksLeft = s.params.maxCount.toNat + 1 - s.pdh[i].toNat +
      2 * (40 - i.val) * (s.params.maxCount.toNat + 1) + 4 := by
  rw [← getD_toList s.pdh hi, hi]
  simp [State.ticksLeft, hp]

theorem ticksLeft_compute (hp : s.phase = 8#4 ∨ s.phase = 9#4 ∨ s.phase = 10#4 ∨ s.phase = 11#4) :
    s.ticksLeft = 12 - s.phase.toNat := by
  obtain hp | hp | hp | hp := hp <;> simp [State.ticksLeft, hp]

end TicksLeft

/-- A READ run starts with the whole bound before it (R111, R244). -/
theorem ticksLeft_acceptRead (s : State) : (acceptRead s).ticksLeft = s.readBound := by
  rw [ticksLeft_wakeHigh rfl]
  simp only [acceptRead_params, acceptRead_cnt, BitVec.toNat_zero, State.readBound]
  omega

/-- The measure is 0 exactly when no run is in progress (R244). -/
theorem ticksLeft_eq_zero_iff {s : State} (h : s.Inv) : s.ticksLeft = 0 ↔ s.busy = false := by
  rw [← Bool.not_eq_true, h.busy_iff]
  by_cases hp : s.phase = 0#4
  · simp [State.ticksLeft, hp]
  · obtain hp | hp | hp | hp | hp | hp | hp | hp | hp | hp | hp := phase_cases h.phase_le hp <;>
      simp [State.ticksLeft, hp]

theorem ticksLeft_pos {s : State} (h : s.Inv) (hb : s.busy = true) : 0 < s.ticksLeft :=
  Nat.pos_of_ne_zero fun h0 => Bool.false_ne_true (((ticksLeft_eq_zero_iff h).1 h0).symm.trans hb)

theorem State.Capturing.exists_pair {s : State} (hc : s.Capturing) : ∃ i : Pair, i.val = s.idx.toNat :=
  ⟨⟨s.idx.toNat, Nat.lt_succ_of_le hc.idx_le⟩, rfl⟩

/-! ### A tick uses up at least one of them (R244) -/

/-- A tick of WAKE_HIGH counts, or passes on to a phase whose count starts at 0 (R131); WAKE_LOW, HANDOVER and SETTLE are
alike (R132 to R134). -/
theorem ticksLeft_lt_of_wakeHigh {s t : State} (hp : s.phase = 1#4) (hcnt : s.cnt.toNat < s.params.wakeHighTicks.toNat)
    (he : PhaseEffect .wakeHigh s t) : t.ticksLeft < s.ticksLeft := by
  rw [ticksLeft_wakeHigh hp]
  cases he with
  | wakeHighCounts hc => rw [ticksLeft_wakeHigh (by exact hp), cnt_add_one hc]; dsimp only; omega
  | wakeHighEnds => rw [ticksLeft_wakeLow rfl]; simp only [BitVec.toNat_zero]; omega

theorem ticksLeft_lt_of_wakeLow {s t : State} (hp : s.phase = 2#4) (hcnt : s.cnt.toNat < s.params.wakeLowTicks.toNat)
    (he : PhaseEffect .wakeLow s t) : t.ticksLeft < s.ticksLeft := by
  rw [ticksLeft_wakeLow hp]
  cases he with
  | wakeLowCounts hc => rw [ticksLeft_wakeLow (by exact hp), cnt_add_one hc]; dsimp only; omega
  | wakeLowEnds => rw [ticksLeft_handover rfl]; dsimp only; omega

theorem ticksLeft_lt_of_handover {s t : State} (hp : s.phase = 3#4) (he : PhaseEffect .handover s t) :
    t.ticksLeft < s.ticksLeft := by
  rw [ticksLeft_handover hp]
  cases he
  rw [ticksLeft_settle rfl]
  simp only [BitVec.toNat_zero]
  omega

theorem ticksLeft_lt_of_settle {s t : State} (hp : s.phase = 4#4) (hcnt : s.cnt.toNat < s.params.settleTicks.toNat)
    (he : PhaseEffect .settle s t) : t.ticksLeft < s.ticksLeft := by
  rw [ticksLeft_settle hp]
  cases he with
  | settleCounts hc => rw [ticksLeft_settle (by exact hp), cnt_add_one hc]; dsimp only; omega
  | settleEnds => rw [ticksLeft_readyWait rfl]; simp only [BitVec.toNat_zero]; omega

/-- In READY_WAIT a tick counts, times out, or starts the capture of pair 0 on clean files (R140). -/
theorem ticksLeft_lt_of_readyWait {s t : State} (hp : s.phase = 5#4) (hblank : s.Blank)
    (hcnt : s.cnt.toNat ≤ s.params.maxCount.toNat) (he : PhaseEffect .readyWait s t) : t.ticksLeft < s.ticksLeft := by
  rw [ticksLeft_readyWait hp]
  cases he with
  | readyWaitEnds =>
    rw [ticksLeft_capLow (i := 0) rfl rfl, hblank.pdl 0, BitVec.toNat_zero, Fin.val_zero]
    dsimp only
    omega
  | readyWaitTimeout => exact Nat.succ_pos _
  | readyWaitCounts _ hc =>
    rw [ticksLeft_readyWait (by exact hp), cnt_add_one_of_lt_count (Nat.lt_of_le_of_ne hcnt hc)]
    dsimp only
    omega

/-- In CAP_LOW a tick counts, times out, or passes on to the high half of the pair (R141). -/
theorem ticksLeft_lt_of_capLow {s t : State} (hp : s.phase = 6#4) (hcap : s.Capturing)
    (he : PhaseEffect .capLow s t) : t.ticksLeft < s.ticksLeft := by
  obtain ⟨i, hi⟩ := hcap.exists_pair
  have hle := hcap.pdl_le i
  rw [ticksLeft_capLow hp hi]
  cases he with
  | capLowEnds => rw [ticksLeft_capHigh (s := { s with phase := 7#4 }) rfl hi]; dsimp only; omega
  | capLowTimeout => exact Nat.succ_pos _
  | capLowCounts j hj _ hc =>
    obtain rfl : i = j := Fin.ext (hi.trans hj.symm)
    have hlt : s.pdl[i].toNat < s.params.maxCount.toNat := Nat.lt_of_le_of_ne hle (mt BitVec.eq_of_toNat_eq hc)
    rw [ticksLeft_capLow (by exact hp) (by exact hi), (set_add_one hlt).1]
    dsimp only
    omega

/-- In CAP_HIGH a tick counts, times out, passes on to the next pair, whose files are clean, or ends the capture (R142). -/
theorem ticksLeft_lt_of_capHigh {s t : State} (hp : s.phase = 7#4) (hcap : s.Capturing)
    (he : PhaseEffect .capHigh s t) : t.ticksLeft < s.ticksLeft := by
  obtain ⟨i, hi⟩ := hcap.exists_pair
  have hle := hcap.pdh_le i
  rw [ticksLeft_capHigh hp hi]
  cases he with
  | capHighEnds => change 4 < _; omega
  | capHighNextPair _ hne =>
    have hlt : s.idx.toNat < 40 := Nat.lt_of_le_of_ne hcap.idx_le fun h => hne (BitVec.eq_of_toNat_eq h)
    obtain ⟨j, hj⟩ : ∃ j : Pair, j.val = i.val + 1 := ⟨⟨i.val + 1, by omega⟩, rfl⟩
    have hidx : j.val = (s.idx + 1#6).toNat := by rw [idx_add_one hlt, hj, hi]
    have hfresh : s.pdl[j] = 0#16 := hcap.pdl_fresh j (by omega)
    have hpairs (m : Nat) : 2 * (40 - i.val) * m = 2 * (40 - j.val) * m + 2 * m := by
      rw [show 40 - i.val = 40 - j.val + 1 by omega, Nat.mul_succ, Nat.add_mul]
    rw [ticksLeft_capLow (s := { s with idx := s.idx + 1#6, phase := 6#4 }) rfl hidx, hpairs, hfresh, BitVec.toNat_zero]
    dsimp only
    omega
  | capHighTimeout => exact Nat.succ_pos _
  | capHighCounts j hj _ hc =>
    obtain rfl : i = j := Fin.ext (hi.trans hj.symm)
    have hlt : s.pdh[i].toNat < s.params.maxCount.toNat := Nat.lt_of_le_of_ne hle (mt BitVec.eq_of_toNat_eq hc)
    rw [ticksLeft_capHigh (by exact hp) (by exact hi), (set_add_one hlt).1]
    dsimp only
    omega

/-- Each compute phase lasts one tick, and CHECK may end the run (R160, R161, R170, R181). -/
theorem ticksLeft_lt_of_compute {s t : State} (hp : s.phase = 8#4 ∨ s.phase = 9#4 ∨ s.phase = 10#4 ∨ s.phase = 11#4)
    (he : PhaseEffect (decodePhase s.phase) s t) : t.ticksLeft < s.ticksLeft := by
  rw [ticksLeft_compute hp]
  obtain hp | hp | hp | hp := hp <;> rw [hp] at he ⊢
  · change PhaseEffect .thresh s t at he
    cases he
    change 3 < 4
    decide
  · change PhaseEffect .bitdec s t at he
    cases he
    change 2 < 3
    decide
  · change PhaseEffect .check s t at he
    cases he with
    | checkPasses => change 1 < 2; decide
    | checkFails => change 0 < 2; decide
  · change PhaseEffect .calib s t at he
    cases he
    change 0 < 1
    decide

/-- In every phase of a run a tick lowers the measure. -/
theorem ticksLeft_lt_of_phaseEffect {s t : State} (h : s.Inv) (hb : s.busy = true)
    (he : PhaseEffect (decodePhase s.phase) s t) : t.ticksLeft < s.ticksLeft := by
  cases stage_of_inv h hb with
  | wakeHigh hp _ _ hcnt => exact ticksLeft_lt_of_wakeHigh hp hcnt (by rw [hp] at he; exact he)
  | wakeLow hp _ _ hcnt => exact ticksLeft_lt_of_wakeLow hp hcnt (by rw [hp] at he; exact he)
  | handover hp => exact ticksLeft_lt_of_handover hp (by rw [hp] at he; exact he)
  | settle hp _ _ hcnt => exact ticksLeft_lt_of_settle hp hcnt (by rw [hp] at he; exact he)
  | readyWait hp _ hblank hcnt => exact ticksLeft_lt_of_readyWait hp hblank hcnt (by rw [hp] at he; exact he)
  | capLow hp _ hcap => exact ticksLeft_lt_of_capLow hp hcap (by rw [hp] at he; exact he)
  | capHigh hp _ hcap => exact ticksLeft_lt_of_capHigh hp hcap (by rw [hp] at he; exact he)
  | compute hp => exact ticksLeft_lt_of_compute (hp.imp_right (.imp_right (.imp_right And.left))) he

/-- While a run is in progress a host access touches nothing the measure looks at (R63, R114, R242). -/
theorem ticksLeft_of_hostEffect {i : Instr} {s t : State} (hb : s.busy = true) (he : HostEffect i s t) :
    t.ticksLeft = s.ticksLeft := by
  cases he with
  | read | ignored | rejected => rfl
  | illegal _ hidle | acceptedRead _ hidle | acceptedDecode _ hidle | storedLow _ _ _ hidle | storedHigh _ _ _ hidle =>
    exact absurd (hidle.symm.trans hb) Bool.false_ne_true

/-- Settles O59: a reset tick ends the run, a tick of a phase lowers the measure, and a host access leaves it. -/
theorem everyTickBringsTheEndNearer : Obligations.EveryTickBringsTheEndNearer := by
  unfold Obligations.EveryTickBringsTheEndNearer
  intro s t e h hb ht
  suffices hcase : t.ticksLeft < s.ticksLeft ∨ (∀ rst sample, e ≠ .tick rst sample) ∧ t.ticksLeft = s.ticksLeft by
    refine ⟨?_, ?_, ticksLeft_eq_zero_iff (inv_of_onEvent h ht)⟩
    · obtain hlt | ⟨-, heq⟩ := hcase
      · exact hlt.le
      · exact heq.le
    · rintro ⟨rst, sample, htick⟩
      exact hcase.resolve_right fun hhost => hhost.1 rst sample htick
  obtain ⟨sample, -, rfl⟩ | ⟨sample, -, he⟩ | ⟨idx, v, hhost, he⟩ | ⟨idx, hhost, rfl⟩ := onEvent_effect ht
  · exact .inl (ticksLeft_pos h hb)
  · exact .inl (ticksLeft_lt_of_phaseEffect (s := sampleLine sample s) (inv_sampleLine h sample) hb he)
  · refine .inr ⟨?_, ticksLeft_of_hostEffect hb he⟩
    rintro rst sample rfl
    simp at hhost
  · refine .inr ⟨?_, ticksLeft_of_hostEffect hb (hostEffect_memRead (.rd idx) idx s)⟩
    rintro rst sample rfl
    cases hhost

/-! ### The end of a run (R116, R244) -/

/-- A run has ended in one of its three outcomes (R116). -/
def State.Ended (s : State) : Prop :=
  s.busy = false ∧ s.done = true ∧
    (s.valid = true ∧ s.err = 0#2 ∨
      s.valid = false ∧ s.err = 1#2 ∧ s.ReadingCleared ∨
      s.valid = false ∧ s.err = 2#2 ∧ s.ReadingCleared)

/-- A tick that clears `BUSY` raised one of the two exceptions or derived the reading: no other effect writes `BUSY`. -/
theorem ended_of_phaseEffect {i : Instr} {s t : State} (hr : s.Running) (he : PhaseEffect i s t) (ht : t.busy = false) :
    t.Ended := by
  cases he with
  | readyWaitTimeout | capLowTimeout | capHighTimeout => exact ⟨rfl, rfl, .inr (.inl ⟨hr.valid, rfl, hr.cleared⟩)⟩
  | checkFails => exact ⟨rfl, rfl, .inr (.inr ⟨hr.valid, rfl, hr.cleared⟩)⟩
  | calib => exact ⟨rfl, rfl, .inl ⟨rfl, hr.err⟩⟩
  | _ => exact absurd (ht.symm.trans hr.busy) Bool.false_ne_true

/-- A tick of a run lowers the measure, and where it clears `BUSY` the run has one of its outcomes. -/
theorem ticksLeft_lt_and_ended_of_tick {s t : State} {sample : Bool} {rest : List Event} (h : s.Inv) (hb : s.busy = true)
    (ht : exec (decodePhase s.phase) (sampleLine sample { s with script := rest }) = .next t) :
    t.ticksLeft < s.ticksLeft ∧ (t.busy = false → t.Ended) := by
  have hu : (sampleLine sample { s with script := rest }).Inv :=
    inv_withUnread h s.illcmd s.busyrej sample s.hostData rest s.draws
  have he := phaseEffect_of_exec (encode_decodePhase s.phase) ht
  exact ⟨ticksLeft_lt_of_phaseEffect (s := sampleLine sample { s with script := rest }) hu hb he,
    ended_of_phaseEffect (running_of_inv hu hb) he⟩

/-- A run in progress ends within the measure, if that many ticks are to come. -/
theorem runSteps_ended {s : State} {samples : List Bool} {rest : List Event} (h : s.Inv) (hb : s.busy = true)
    (hs : s.script = ticksOf samples ++ rest) (hlen : s.ticksLeft ≤ samples.length) :
    ∃ k ≤ s.ticksLeft, ∃ t, runSteps k s = .next t ∧ t.Ended := by
  induction samples generalizing s with
  | nil => exact absurd (ticksLeft_pos h hb) (Nat.not_lt.2 hlen)
  | cons b bs ih =>
    obtain ⟨u, hstep, hexec, hu, -, huscript⟩ := step_tick_of_inv h hs
    obtain ⟨hlt, hended⟩ := ticksLeft_lt_and_ended_of_tick h hb hexec
    cases hub : u.busy with
    | false => exact ⟨1, ticksLeft_pos h hb, u, runSteps_succ hstep, hended hub⟩
    | true =>
      obtain ⟨k, hk, t, hrun, ht⟩ := ih hu hub huscript (Nat.le_of_lt_succ (hlt.trans_le hlen))
      exact ⟨k + 1, hk.trans_lt hlt, t, (runSteps_succ hstep).trans hrun, ht⟩

/-- Settles O60: an accepted READ starts a run whose measure is the bound. -/
theorem everyReadRunEndsWithinTheBound : Obligations.EveryReadRunEndsWithinTheBound := by
  unfold Obligations.EveryReadRunEndsWithinTheBound
  intro s samples rest h hb hs hlen
  have hevents := inv_withUnread h s.illcmd s.busyrej s.lineIn s.hostData (ticksOf samples ++ rest) s.draws
  obtain ⟨k, hk, t, hrun, ht⟩ := runSteps_ended (inv_acceptRead hevents hb) rfl rfl
    ((ticksLeft_acceptRead _).trans_le hlen)
  exact ⟨k, hk.trans_eq (ticksLeft_acceptRead _), t, (runSteps_succ (step_acceptRead hb hs)).trans hrun, ht⟩

end Sys2Proof.Machine
